-- ==== Sys2Proof/Word.lean ====
section
/-! DEFINITION. The bit-vector types of the block. Every quantity is unsigned (00_scope.md R10, 10_state.md R35). -/

namespace Sys2Proof

/-- `now`, the timer registers and `raw`: 32 bits (10_state.md R20; `W_TIME` = 32 is fixed, 00_scope.md R8). -/
abbrev Word := BitVec 32

/-- `address`, `data` and the four fields of the frame word (10_state.md R20, 30_encoding.md R80). -/
abbrev Byte := BitVec 8

/-- The wires of `adc_in` in the widest legal block: `ADC_BITS` is at most 16 (00_scope.md R8). A block with
fewer wires reads the low `ADC_BITS` bits of it (notes/assumptions/4.md). -/
abbrev Reading := BitVec 16

end Sys2Proof
end

