-- ==== Sys2Proof/Syntax.lean ====
section
/-! DEFINITION. The instruction set: the 16 steps of the micro-sequence of `nec_frame_fsm`
(00_scope.md R15, 30_encoding.md R88), one constructor per row of opcode_table.json. A step has no run-time
operand (30_encoding.md R93), so no constructor has an argument. -/

namespace Sys2Proof

/-- One step of the micro-sequence (30_encoding.md R88). -/
inductive Instr where
  | idle         -- 0  IDLE
  | lbWaitMark   -- 1  LB_WAIT_MARK
  | lbRetMark    -- 2  LB_RET_MARK
  | lbWaitSpace  -- 3  LB_WAIT_SPACE
  | lbRetSpace   -- 4  LB_RET_SPACE
  | decInit      -- 5  DEC_INIT
  | fbWaitMark   -- 6  FB_WAIT_MARK
  | brRetMark    -- 7  BR_RET_MARK
  | brWaitSpace  -- 8  BR_WAIT_SPACE
  | brRetSpace   -- 9  BR_RET_SPACE
  | bitHead      -- 10 BIT_HEAD
  | bitWaitMark  -- 11 BIT_WAIT_MARK
  | zRetSpace    -- 12 Z_RET_SPACE
  | zWaitMark    -- 13 Z_WAIT_MARK
  | check        -- 14 CHECK
  | done         -- 15 DONE
deriving DecidableEq, Repr

end Sys2Proof
end

