-- ==== Sys2Proof/Decode.lean ====
section
/-! DEFINITION. The step codes (30_encoding.md R87, R88): reading a code, and writing one. -/

namespace Sys2Proof

/-- The step whose code is in the 4-bit register `step`, read from the rows "0000" to "1111" of the step
table, bit 3 first. Total: all 16 codes are steps (10_state.md R22, 30_encoding.md R91). -/
def decode (code : BitVec 4) : Instr :=
  match code.getLsbD 3, code.getLsbD 2, code.getLsbD 1, code.getLsbD 0 with
  | false, false, false, false => .idle
  | false, false, false, true  => .lbWaitMark
  | false, false, true,  false => .lbRetMark
  | false, false, true,  true  => .lbWaitSpace
  | false, true,  false, false => .lbRetSpace
  | false, true,  false, true  => .decInit
  | false, true,  true,  false => .fbWaitMark
  | false, true,  true,  true  => .brRetMark
  | true,  false, false, false => .brWaitSpace
  | true,  false, false, true  => .brRetSpace
  | true,  false, true,  false => .bitHead
  | true,  false, true,  true  => .bitWaitMark
  | true,  true,  false, false => .zRetSpace
  | true,  true,  false, true  => .zWaitMark
  | true,  true,  true,  false => .check
  | true,  true,  true,  true  => .done

/-- Why a table word is not read. -/
inductive DecodeError where
  /-- the word has fewer than the 4 bits of a step code -/
  | shorterThanStepCode (nbits : Nat)
deriving DecidableEq, Repr

/-- The step in a word of `nbits` bits: the mask of every row of opcode_table.json is 0xF, so the code is bits
3 to 0 and no other bit takes part (notes/assumptions/8.md). -/
def decodeWord (nbits w : Nat) : Except DecodeError Instr :=
  if nbits < 4 then .error (.shorterThanStepCode nbits) else .ok (decode (BitVec.ofNat 4 w))

/-- The step the decoder reads from a word numbered as opcode_table.json numbers it. -/
def decodeTableWord (nbits w : Nat) : Option Instr :=
  match decodeWord nbits w with
  | .ok i => some i
  | .error _ => none

/-- The code of a step (30_encoding.md R88). -/
def encode : Instr → BitVec 4
  | .idle        => 0b0000#4
  | .lbWaitMark  => 0b0001#4
  | .lbRetMark   => 0b0010#4
  | .lbWaitSpace => 0b0011#4
  | .lbRetSpace  => 0b0100#4
  | .decInit     => 0b0101#4
  | .fbWaitMark  => 0b0110#4
  | .brRetMark   => 0b0111#4
  | .brWaitSpace => 0b1000#4
  | .brRetSpace  => 0b1001#4
  | .bitHead     => 0b1010#4
  | .bitWaitMark => 0b1011#4
  | .zRetSpace   => 0b1100#4
  | .zWaitMark   => 0b1101#4
  | .check       => 0b1110#4
  | .done        => 0b1111#4

end Sys2Proof
end

