-- ==== Sys2Proof/Config.lean ====
section
/-! DEFINITION. The parameters the block is built with (00_scope.md R8), the quantities derived from them,
and the two free values of the model: the open `LOW_THRESHOLD` and the input pins. -/

namespace Sys2Proof

/-- The parameters of 00_scope.md R8 with its defaults; `LOW_THRESHOLD` has none (D4). `FULL_SCALE` and
`HIGH_THRESHOLD` are derived and `W_TIME` is fixed at 32, so they are no fields. Windows are in ticks. -/
structure Params where
  adcBits           : Nat := 10
  lowThreshold      : Nat
  tLeadMarkWait     : Nat := 900
  tLeadMarkRetain   : Nat := 8400
  tLeadSpaceWait    : Nat := 1000
  tLeadSpaceRetain  : Nat := 4100
  tFirstMarkWait    : Nat := 900
  tBitMarkWait      : Nat := 300
  tBurstMarkRetain  : Nat := 150
  tBurstSpaceWait   : Nat := 300
  tBurstSpaceRetain : Nat := 200
  tZeroSpaceRetain  : Nat := 700
  tFrame            : Nat := 58000
  tPause            : Nat := 1000
deriving DecidableEq, Repr

/-- `FULL_SCALE = 2^ADC_BITS − 1`, the largest reading (00_scope.md R8, 40_level_sampler.md R111). -/
def Params.fullScale (p : Params) : Nat := 2 ^ p.adcBits - 1

/-- `HIGH_THRESHOLD = FULL_SCALE − LOW_THRESHOLD` (40_level_sampler.md R111). -/
def Params.highThreshold (p : Params) : Nat := p.fullScale - p.lowThreshold

/-- `F` of 44_frame_decode.md R191: the most ticks from DEC_INIT to the first BIT_HEAD. -/
def Params.firstHeadBound (p : Params) : Nat :=
  p.tFirstMarkWait + p.tBurstMarkRetain + p.tBurstSpaceWait + p.tBurstSpaceRetain + 5

/-- `Z` of 44_frame_decode.md R191: the most ticks of an iteration of the bit loop that classifies a 0. -/
def Params.zeroIterationBound (p : Params) : Nat :=
  2 * p.tBitMarkWait + p.tZeroSpaceRetain + p.tBurstMarkRetain + p.tBurstSpaceWait + p.tBurstSpaceRetain + 7

/-- The most ticks of an iteration that classifies a 1 (44_frame_decode.md R190: 955 with the defaults). -/
def Params.oneIterationBound (p : Params) : Nat :=
  p.tBitMarkWait + p.tBurstMarkRetain + p.tBurstSpaceWait + p.tBurstSpaceRetain + 5

/-- `E_max = F + 31 × Z` of 44_frame_decode.md R191. -/
def Params.eMax (p : Params) : Nat := p.firstHeadBound + 31 * p.zeroIterationBound

/-- The windows and the frame duration, each of which R8 bounds by 1 and 2^31 − 1. -/
def Params.durations (p : Params) : List Nat :=
  [p.tLeadMarkWait, p.tLeadMarkRetain, p.tLeadSpaceWait, p.tLeadSpaceRetain, p.tFirstMarkWait,
   p.tBitMarkWait, p.tBurstMarkRetain, p.tBurstSpaceWait, p.tBurstSpaceRetain, p.tZeroSpaceRetain,
   p.tFrame, p.tPause]

/-- The values of the two input pins at one tick (10_state.md R21): `rst` and `adc_in`. -/
structure PinInput where
  rst   : Bool
  adcIn : Reading
deriving DecidableEq, Repr, Inhabited

/-- FREE VALUE (notes/assumptions/3.md): the spec leaves `LOW_THRESHOLD` open (D4, U1). The block of
`State.reset` has `LOW_THRESHOLD` one more than this, so any of the legal values 1 to 511. -/
opaque Config.freeLowThreshold : Fin 511

/-- FREE VALUE (notes/assumptions/1.md): what the environment puts on the pins at the tick of this number,
where the state's waveform does not say (00_scope.md R13: the samples and `rst` are free inputs). -/
opaque Config.freePins : Nat → PinInput

end Sys2Proof
end

