-- ==== Sys2Proof/WellFormed.lean ====
section
/-! DEFINITION. What is well formed: a configuration within the legal values of 00_scope.md R8 and R9.
A configuration outside them is refused: it has no `Config`. A step has no operand, so every `Instr` is
well formed. -/

namespace Sys2Proof

/-- 00_scope.md R8: `ADC_BITS` is 2 to 16. -/
def Params.adcBitsLegal (p : Params) : Bool := decide (2 ≤ p.adcBits) && decide (p.adcBits ≤ 16)

/-- 00_scope.md R8: `LOW_THRESHOLD` is 1 to `FULL_SCALE/2` rounded down. -/
def Params.thresholdLegal (p : Params) : Bool :=
  decide (1 ≤ p.lowThreshold) && decide (p.lowThreshold ≤ p.fullScale / 2)

/-- 00_scope.md R8: every window and the frame duration is 1 to 2^31 − 1. -/
def Params.durationsLegal (p : Params) : Bool :=
  p.durations.all fun w => decide (1 ≤ w) && decide (w ≤ 2 ^ 31 - 1)

/-- 00_scope.md R9: `E_max < 2^32`, so that `elapsed(FT)` never wraps while it is read. -/
def Params.frameTimerLegal (p : Params) : Bool := decide (p.eMax < 2 ^ 32)

/-- The legal configurations of 00_scope.md R8 and R9. -/
def Params.legal (p : Params) : Bool :=
  p.adcBitsLegal && p.thresholdLegal && p.durationsLegal && p.frameTimerLegal

/-- A legal configuration: parameters together with the proof that 00_scope.md R9 does not refuse them. -/
structure Config where
  params : Params
  legal  : params.legal = true
deriving DecidableEq, Repr

/-- The defaults of 00_scope.md R8 with the given `LOW_THRESHOLD`. -/
def Params.withDefaults (low : Nat) : Params := { lowThreshold := low }

/-- With the defaults `F` is 1,555 ticks (44_frame_decode.md R191). -/
theorem Params.withDefaults_firstHeadBound (low : Nat) : (Params.withDefaults low).firstHeadBound = 1555 := by
  simp only [Params.firstHeadBound, Params.withDefaults]

/-- With the defaults `Z` is 1,957 ticks (44_frame_decode.md R191). -/
theorem Params.withDefaults_zeroIterationBound (low : Nat) :
    (Params.withDefaults low).zeroIterationBound = 1957 := by
  simp only [Params.zeroIterationBound, Params.withDefaults]

/-- With the defaults an iteration that classifies a 1 lasts at most 955 ticks (44_frame_decode.md R190). -/
theorem Params.withDefaults_oneIterationBound (low : Nat) :
    (Params.withDefaults low).oneIterationBound = 955 := by
  simp only [Params.oneIterationBound, Params.withDefaults]

/-- With the defaults `E_max` is 62,222 ticks (44_frame_decode.md R191). -/
theorem Params.withDefaults_eMax (low : Nat) : (Params.withDefaults low).eMax = 62222 := by
  simp only [Params.eMax, Params.withDefaults_firstHeadBound, Params.withDefaults_zeroIterationBound]

/-- The defaults are legal with every legal threshold (00_scope.md R8: 1 to 511 for 10 bits). -/
theorem Params.withDefaults_legal (low : Nat) (h1 : 1 ≤ low) (h2 : low ≤ 511) :
    (Params.withDefaults low).legal = true := by
  have ha : (Params.withDefaults low).adcBitsLegal = true := rfl
  have ht : (Params.withDefaults low).thresholdLegal = true := by
    simp [Params.thresholdLegal, Params.withDefaults, Params.fullScale, h1, h2]
  have hd : (Params.withDefaults low).durationsLegal = true := rfl
  have hf : (Params.withDefaults low).frameTimerLegal = true := by
    simp [Params.frameTimerLegal, Params.withDefaults_eMax]
  simp [Params.legal, ha, ht, hd, hf]

/-- The block with the default parameters and the given threshold. -/
def Config.ofThreshold (low : Nat) (h1 : 1 ≤ low) (h2 : low ≤ 511) : Config :=
  ⟨Params.withDefaults low, Params.withDefaults_legal low h1 h2⟩

/-- The configuration of `State.reset`: the defaults, and the open `LOW_THRESHOLD` left free
(notes/assumptions/2.md, notes/assumptions/3.md). -/
def Config.atReset : Config :=
  Config.ofThreshold (1 + Config.freeLowThreshold.val) (by omega)
    (by have := Config.freeLowThreshold.isLt; omega)

/-- Every step is well formed: it has no operand (30_encoding.md R93) and every code is a step (R91). -/
def Instr.wellFormed : Instr → Bool
  | .idle => true
  | .lbWaitMark => true
  | .lbRetMark => true
  | .lbWaitSpace => true
  | .lbRetSpace => true
  | .decInit => true
  | .fbWaitMark => true
  | .brRetMark => true
  | .brWaitSpace => true
  | .brRetSpace => true
  | .bitHead => true
  | .bitWaitMark => true
  | .zRetSpace => true
  | .zWaitMark => true
  | .check => true
  | .done => true

end Sys2Proof
end

