-- ==== Sys2Proof/Machine/State.lean ====
section
/-! DEFINITION. The state of the block: the 226 register bits of 10_state.md R20 and, as fields of the model's
own, the configuration and the input of the coming ticks; the state after reset. -/

namespace Sys2Proof.Machine

/-- A deadline timer: its start and duration registers (10_state.md R25, R26, 41_deadline_timer.md R121). -/
structure Timer where
  start : Word
  dur   : Word
deriving DecidableEq, Repr

/-- The outcome of the last finished decode attempt, the register `result` (30_encoding.md R89). The codes 5 to
7 are never produced and have no value here (R91). -/
inductive Result where
  | none | accepted | rejTimeout | rejIntegrity | rejDeadline
deriving DecidableEq, Repr

/-- Why the machine stops with a fault: it never does. The block has no trap, no hang and no undefined result
(00_scope.md R16); the failures of 60_exceptions.md R240 are ordinary next states. Safe: nothing raises it. -/
inductive Fault
deriving DecidableEq, Repr

/-- Why the model refuses. -/
inductive Refusal where
  /-- An arm of `exec` whose step has no meaning yet. No arm answers it. Safe. -/
  | notModelled (mnemonic : String)
  /-- Raised by `build` for a configuration outside the legal values of 00_scope.md R8 (R9: "is refused: the
  model gives it no meaning"). No tick raises it. Safe: an illegal block has no state. -/
  | illegalConfiguration
deriving DecidableEq, Repr

/-- The state of the block. The first three fields are the model's own (notes/assumptions/1.md, 2.md); the rest
are the registers of 10_state.md R20, each under its name there (`stepReg` is `step`; `wt` and `ft` hold
`wt_start`, `wt_dur`, `ft_start`, `ft_dur`). -/
structure State where
  /-- the parameters the block was built with; no tick writes it (00_scope.md R8, 10_state.md R34) -/
  config       : Config
  /-- the input pins at the coming ticks, the first one first (20_memory.md R61, 30_encoding.md R94) -/
  waveform     : List PinInput
  /-- how many ticks were taken: the number the free pins of a tick without a waveform entry are drawn with -/
  ticks        : Nat
  stepReg      : BitVec 4
  armed        : Bool
  now          : Word
  wt           : Timer
  ft           : Timer
  raw          : Word
  idx          : BitVec 6
  address      : Byte
  data         : Byte
  result       : Result
  frameValid   : Bool
  rejectValid  : Bool
  dbgPollTick  : Bool
  dbgBitTick   : Bool
deriving DecidableEq, Repr

/-- A block of the given configuration whose registers hold their reset values (10_state.md R38,
70_reset_and_hazards.md R271), with the given input to come. -/
def State.resetOf (c : Config) (waveform : List PinInput) (ticks : Nat) : State where
  config := c
  waveform := waveform
  ticks := ticks
  stepReg := 0
  armed := false
  now := 0
  wt := ⟨0, 0⟩
  ft := ⟨0, 0⟩
  raw := 0
  idx := 31
  address := 0
  data := 0
  result := .none
  frameValid := false
  rejectValid := false
  dbgPollTick := false
  dbgBitTick := false

/-- The block right after reset (70_reset_and_hazards.md R271), built with the default parameters and an open
threshold, with nothing known of its input (notes/assumptions/1.md to 3.md). -/
def State.reset : State := State.resetOf Config.atReset [] 0

end Sys2Proof.Machine
end

