-- ==== Sys2Proof/Machine/Flags.lean ====
section
/-! DEFINITION. The combinational answers the step rules test: the input pins of a tick, the level of a sample
(40_level_sampler.md), the timer comparisons (41_deadline_timer.md) and the integrity predicate
(45_integrity_and_frame_loop.md). -/

namespace Sys2Proof.Machine

/-- The three levels of a sample (40_level_sampler.md R112). -/
inductive Level where
  | mark | nonMark | indeterminate
deriving DecidableEq, Repr

/-- A definite level, the operand of a WAIT or RETAIN step (00_scope.md R19, 30_encoding.md R93). -/
inductive DefiniteLevel where
  | mark | nonMark
deriving DecidableEq, Repr

/-- The level a definite level is. -/
def DefiniteLevel.level : DefiniteLevel → Level
  | .mark => .mark
  | .nonMark => .nonMark

/-- `opp(L)`, the opposite definite level (00_scope.md R11). -/
def DefiniteLevel.opp : DefiniteLevel → DefiniteLevel
  | .mark => .nonMark
  | .nonMark => .mark

/-- The 2-bit level code `{is_nonmark, is_mark}` (30_encoding.md R86). -/
def Level.code : Level → BitVec 2
  | .mark => 0b01#2
  | .nonMark => 0b10#2
  | .indeterminate => 0b00#2

/-- The values on the input pins at the tick `k` ticks from now: the waveform's entry, or a free value where
the waveform has ended (notes/assumptions/1.md). -/
def State.pinsAt (s : State) (k : Nat) : PinInput :=
  match s.waveform[k]? with
  | some p => p
  | none => Config.freePins (s.ticks + k)

/-- The values on the input pins at this tick. -/
def State.pins (s : State) : PinInput := s.pinsAt 0

/-- The reading a block of this configuration takes from the wires of `adc_in`: the low `ADC_BITS` bits, an
unsigned number 0 to `FULL_SCALE` (20_memory.md R61, notes/assumptions/4.md). -/
def readingOf (c : Config) (adcIn : Reading) : Nat := adcIn.toNat % 2 ^ c.params.adcBits

/-- `is_mark = (s < LOW_THRESHOLD)` (40_level_sampler.md R110). -/
def isMark (c : Config) (sample : Nat) : Bool := decide (sample < c.params.lowThreshold)

/-- `is_nonmark = (s > HIGH_THRESHOLD)` (40_level_sampler.md R110). -/
def isNonMark (c : Config) (sample : Nat) : Bool := decide (sample > c.params.highThreshold)

/-- The level of a sample: Mark, NonMark, or neither (40_level_sampler.md R112). The two predicates are never
both true under a legal configuration (R113). -/
def levelOf (c : Config) (sample : Nat) : Level :=
  if isMark c sample then .mark else if isNonMark c sample then .nonMark else .indeterminate

/-- The level of the sample `k` ticks from now. -/
def State.levelAt (s : State) (k : Nat) : Level := levelOf s.config (readingOf s.config (s.pinsAt k).adcIn)

/-- `level`: the level of this tick's sample, recomputed at every tick and stored nowhere (R114). -/
def State.level (s : State) : Level := s.levelAt 0

/-- `elapsed(T) = (now − T_start) mod 2^32` (41_deadline_timer.md R122). -/
def elapsed (now : Word) (t : Timer) : Word := now - t.start

/-- `expired(T) = (elapsed(T) >= T_dur)`, unsigned (41_deadline_timer.md R123). -/
def expired (now : Word) (t : Timer) : Bool := decide (elapsed now t ≥ t.dur)

/-- `checkIntegrity(v, vInv) = ((v ^ vInv) == 0xFF)` (45_integrity_and_frame_loop.md R210). -/
def checkIntegrity (v vInv : Byte) : Bool := (v ^^^ vInv) == 0xFF#8

/-- `a = raw[31:24]` (30_encoding.md R81). -/
def addressField (raw : Word) : Byte := raw.extractLsb' 24 8

/-- `an = raw[23:16]` (30_encoding.md R81). -/
def addressInvField (raw : Word) : Byte := raw.extractLsb' 16 8

/-- `d = raw[15:8]` (30_encoding.md R81). -/
def dataField (raw : Word) : Byte := raw.extractLsb' 8 8

/-- `dn = raw[7:0]` (30_encoding.md R81). -/
def dataInvField (raw : Word) : Byte := raw.extractLsb' 0 8

/-- `ok`: both complement checks pass (45_integrity_and_frame_loop.md R211). -/
def frameOk (raw : Word) : Bool :=
  checkIntegrity (addressField raw) (addressInvField raw) && checkIntegrity (dataField raw) (dataInvField raw)

/-- `idx[5] == 1`: all 32 bits are assembled (10_state.md R28). -/
def allBitsAssembled (idx : BitVec 6) : Bool := idx.getLsbD 5

end Sys2Proof.Machine
end

