-- ==== Sys2Proof/Machine/Operands.lean ====
section
/-! DEFINITION. The fixed operands of the steps: their kinds, levels, windows and successors, as the step table
of 30_encoding.md R88 gives them (R93: "a total function from the 16 step values"). -/

namespace Sys2Proof.Machine

/-- The four kinds of step (42_wait_and_retain.md R137), with the level a WAIT waits for or a RETAIN retains. -/
inductive StepKind where
  | wait (l : DefiniteLevel)
  | retain (l : DefiniteLevel)
  | pause
  | ctrl
deriving DecidableEq, Repr

/-- The three classes of failure (60_exceptions.md R240). -/
inductive Failure where
  | timeout | integrity | deadlineExhaustion
deriving DecidableEq, Repr

/-- The value a failure writes to `result` (60_exceptions.md R241). -/
def Failure.result : Failure → Result
  | .timeout => .rejTimeout
  | .integrity => .rejIntegrity
  | .deadlineExhaustion => .rejDeadline

/-- What a step does on failure (30_encoding.md R88, column "on failure"). -/
inductive FailureExit where
  | cannotFail
  | goto (i : Instr)
  | raise (f : Failure)
deriving DecidableEq, Repr

/-- A row of the step table: kind, window in ticks (0 for a CTRL step, which has none), the steps it can go to
on success, and what it does on failure. -/
structure StepRow where
  kind      : StepKind
  window    : Nat
  onSuccess : List Instr
  onFailure : FailureExit
deriving DecidableEq, Repr

/-- The step table of 30_encoding.md R88. -/
def stepTable (p : Params) : Instr → StepRow
  | .idle        => ⟨.ctrl, 0, [.lbWaitMark], .cannotFail⟩
  | .lbWaitMark  => ⟨.wait .mark, p.tLeadMarkWait, [.lbRetMark], .goto .idle⟩
  | .lbRetMark   => ⟨.retain .mark, p.tLeadMarkRetain, [.lbWaitSpace], .goto .idle⟩
  | .lbWaitSpace => ⟨.wait .nonMark, p.tLeadSpaceWait, [.lbRetSpace], .goto .idle⟩
  | .lbRetSpace  => ⟨.retain .nonMark, p.tLeadSpaceRetain, [.decInit], .goto .idle⟩
  | .decInit     => ⟨.ctrl, 0, [.fbWaitMark], .cannotFail⟩
  | .fbWaitMark  => ⟨.wait .mark, p.tFirstMarkWait, [.brRetMark], .raise .timeout⟩
  | .brRetMark   => ⟨.retain .mark, p.tBurstMarkRetain, [.brWaitSpace], .raise .timeout⟩
  | .brWaitSpace => ⟨.wait .nonMark, p.tBurstSpaceWait, [.brRetSpace], .raise .timeout⟩
  | .brRetSpace  => ⟨.retain .nonMark, p.tBurstSpaceRetain, [.bitHead], .raise .timeout⟩
  | .bitHead     => ⟨.ctrl, 0, [.check, .bitWaitMark], .raise .deadlineExhaustion⟩
  | .bitWaitMark => ⟨.wait .mark, p.tBitMarkWait, [.brRetMark], .goto .zRetSpace⟩
  | .zRetSpace   => ⟨.retain .nonMark, p.tZeroSpaceRetain, [.zWaitMark], .raise .timeout⟩
  | .zWaitMark   => ⟨.wait .mark, p.tBitMarkWait, [.brRetMark], .raise .timeout⟩
  | .check       => ⟨.ctrl, 0, [.done], .raise .integrity⟩
  | .done        => ⟨.pause, p.tPause, [.idle], .cannotFail⟩

/-- The step a failure exit goes to: DONE when it raises (60_exceptions.md R250). -/
def FailureExit.targets : FailureExit → List Instr
  | .cannotFail => []
  | .goto i => [i]
  | .raise _ => [.done]

/-- The steps that may follow a step: the only transitions there are (30_encoding.md R88). -/
def StepRow.targets (r : StepRow) : List Instr := r.onSuccess ++ r.onFailure.targets

end Sys2Proof.Machine
end

