-- ==== Sys2Proof/Machine/Ops.lean ====
section
/-! DEFINITION. The operations the step rules are made of: `goto`, `start`, the pulses, the failure entry
(60_exceptions.md R250) and the return from it, the three step kinds that last several ticks
(42_wait_and_retain.md), bit classification, and what a tick does around the step rule (R135).

Every operation takes the state before the tick's writes and gives it with them done. `now` is written at the
end of the tick only (`endTick`), so every read of it here is of the value before the tick (R136). -/

namespace Sys2Proof.Machine

/-- `goto STEP`: `step <- code(STEP); armed <- 0` (00_scope.md R11). -/
def goto (i : Instr) (s : State) : State := { s with stepReg := encode i, armed := false }

/-- `start(WT, W)`: `wt_start <- now; wt_dur <- zext_32(W)` (41_deadline_timer.md R121). -/
def startWT (window : Nat) (s : State) : State := { s with wt := ⟨s.now, BitVec.ofNat 32 window⟩ }

/-- `start(FT, d)`: `ft_start <- now; ft_dur <- zext_32(d)` (41_deadline_timer.md R121). -/
def startFT (duration : Nat) (s : State) : State := { s with ft := ⟨s.now, BitVec.ofNat 32 duration⟩ }

/-- `armed <- 1` (10_state.md R23). -/
def arm (s : State) : State := { s with armed := true }

/-- `dbg_poll_tick <- 1`, the source's scope-visible poll tick (42_wait_and_retain.md R140). -/
def emitPollTick (s : State) : State := { s with dbgPollTick := true }

/-- FAILURE ENTRY, the block's one exception entry: `result <- c; reject_valid <- 1; goto DONE`. Nothing is
saved and nothing else is written (60_exceptions.md R250). -/
def raise (f : Failure) (s : State) : State :=
  goto .done { s with result := f.result, rejectValid := true }

/-- RETURN from a failure (and from an accepted frame): DONE, its pause over, goes to IDLE; there is nothing to
restore (60_exceptions.md R252). -/
def returnToIdle (s : State) : State := goto .idle s

/-- WAIT(L, W): the arm tick (42_wait_and_retain.md R140) and the poll tick (R141), with what the step does on
success and on failure. -/
def runWait (l : DefiniteLevel) (window : Nat) (succeed fail : State → State) (s : State) : State :=
  if s.armed then
    if s.level = l.level then succeed s
    else if expired s.now s.wt then fail s
    else s
  else
    if s.level = l.opp.level then arm (emitPollTick (startWT window s))
    else fail (emitPollTick (startWT window s))

/-- RETAIN(L, W): the timer is asked before the level, and only the opposite definite level is wrong
(42_wait_and_retain.md R143). -/
def runRetain (l : DefiniteLevel) (window : Nat) (succeed fail : State → State) (s : State) : State :=
  if s.armed then
    if expired s.now s.wt then succeed s
    else if s.level = l.opp.level then fail s
    else s
  else
    if s.level = l.opp.level then fail (startWT window s)
    else arm (startWT window s)

/-- PAUSE(W): it does not use the level and cannot fail (42_wait_and_retain.md R145). -/
def runPause (window : Nat) (succeed : State → State) (s : State) : State :=
  if s.armed then
    if expired s.now s.wt then succeed s else s
  else arm (startWT window s)

/-- `raw[idx[4:0]] <- 1`, that is `raw <- raw | (1 << idx[4:0])` (44_frame_decode.md R182, R185). -/
def setRawBit (s : State) : State :=
  { s with raw := s.raw ||| (1#32 <<< (s.idx.extractLsb' 0 5).toNat) }

/-- What both outcomes of a bit classification do: `idx <- idx − 1 mod 64; dbg_bit_tick <- 1`
(44_frame_decode.md R182). -/
def countBit (s : State) : State := { s with idx := s.idx - 1, dbgBitTick := true }

/-- The current bit is 1: set it, count it, consume the rest of the burst (44_frame_decode.md R182). -/
def classifyOne (s : State) : State := goto .brRetMark (countBit (setRawBit s))

/-- The current bit is 0: count it, consume the long space (44_frame_decode.md R182). -/
def classifyZero (s : State) : State := goto .zRetSpace (countBit s)

/-- An accepted frame: `address <- a; data <- d; result <- ACCEPTED; frame_valid <- 1; goto DONE`
(45_integrity_and_frame_loop.md R212). -/
def accept (s : State) : State :=
  goto .done
    { s with
      address := addressField s.raw
      data := dataField s.raw
      result := .accepted
      frameValid := true }

/-- The tick's defaults: the four pulse registers are cleared before the step rule (42_wait_and_retain.md
R135). -/
def beginTick (s : State) : State :=
  { s with frameValid := false, rejectValid := false, dbgPollTick := false, dbgBitTick := false }

/-- The end of a tick: `now <- now + 1 mod 2^32` (42_wait_and_retain.md R135), and the pins move on to the next
tick's values. -/
def endTick (s : State) : State :=
  { s with now := s.now + 1, waveform := s.waveform.tail, ticks := s.ticks + 1 }

/-- A tick with `rst` at 1: every register takes its reset value and no step rule is evaluated
(70_reset_and_hazards.md R270). -/
def resetTick (s : State) : State := State.resetOf s.config s.waveform.tail (s.ticks + 1)

/-- Building the block: a legal configuration gives a block in the reset state with the given input to come; an
illegal one is refused (00_scope.md R9, 70_reset_and_hazards.md R274). -/
def build (p : Params) (waveform : List PinInput) : Host.Outcome State Fault Refusal :=
  if h : p.legal = true then .next (State.resetOf ⟨p, h⟩ waveform 0) else .refused .illegalConfiguration

end Sys2Proof.Machine
end

