-- ==== Sys2Proof/Machine/FrameDecode.lean ====
section
/-! DEFINITION. Burst consumption and bit classification: DEC_INIT, FB_WAIT_MARK, BR_RET_MARK, BR_WAIT_SPACE,
BR_RET_SPACE, BIT_HEAD, BIT_WAIT_MARK, Z_RET_SPACE, Z_WAIT_MARK (44_frame_decode.md). -/

namespace Sys2Proof.Machine

/-- DEC_INIT: starts the frame timer, clears `raw`, sets `idx` to 31 (44_frame_decode.md R176). -/
def execDecInit (s : State) : Host.Outcome State Fault Refusal :=
  .next (goto .fbWaitMark { startFT s.config.params.tFrame s with raw := 0, idx := 31 })

/-- FB_WAIT_MARK (44_frame_decode.md R177). -/
def execFbWaitMark (s : State) : Host.Outcome State Fault Refusal :=
  .next (runWait .mark s.config.params.tFirstMarkWait (goto .brRetMark) (raise .timeout) s)

/-- BR_RET_MARK (44_frame_decode.md R178). -/
def execBrRetMark (s : State) : Host.Outcome State Fault Refusal :=
  .next (runRetain .mark s.config.params.tBurstMarkRetain (goto .brWaitSpace) (raise .timeout) s)

/-- BR_WAIT_SPACE (44_frame_decode.md R179). -/
def execBrWaitSpace (s : State) : Host.Outcome State Fault Refusal :=
  .next (runWait .nonMark s.config.params.tBurstSpaceWait (goto .brRetSpace) (raise .timeout) s)

/-- BR_RET_SPACE (44_frame_decode.md R180). -/
def execBrRetSpace (s : State) : Host.Outcome State Fault Refusal :=
  .next (runRetain .nonMark s.config.params.tBurstSpaceRetain (goto .bitHead) (raise .timeout) s)

/-- BIT_HEAD: the completion test comes before the deadline test (44_frame_decode.md R181). -/
def execBitHead (s : State) : Host.Outcome State Fault Refusal :=
  .next
    (if allBitsAssembled s.idx then goto .check s
     else if expired s.now s.ft then raise .deadlineExhaustion s
     else goto .bitWaitMark s)

/-- BIT_WAIT_MARK: a WAIT whose outcome is the bit; neither outcome fails the attempt (44_frame_decode.md
R182). -/
def execBitWaitMark (s : State) : Host.Outcome State Fault Refusal :=
  .next (runWait .mark s.config.params.tBitMarkWait classifyOne classifyZero s)

/-- Z_RET_SPACE (44_frame_decode.md R183). -/
def execZRetSpace (s : State) : Host.Outcome State Fault Refusal :=
  .next (runRetain .nonMark s.config.params.tZeroSpaceRetain (goto .zWaitMark) (raise .timeout) s)

/-- Z_WAIT_MARK (44_frame_decode.md R184). -/
def execZWaitMark (s : State) : Host.Outcome State Fault Refusal :=
  .next (runWait .mark s.config.params.tBitMarkWait (goto .brRetMark) (raise .timeout) s)

end Sys2Proof.Machine
end

