-- ==== Sys2Proof/Machine/FrameLoop.lean ====
section
/-! DEFINITION. The end of an attempt: CHECK and DONE (45_integrity_and_frame_loop.md). -/

namespace Sys2Proof.Machine

/-- CHECK: accept the frame or raise the integrity failure (45_integrity_and_frame_loop.md R212). -/
def execCheck (s : State) : Host.Outcome State Fault Refusal :=
  .next (if frameOk s.raw then accept s else raise .integrity s)

/-- DONE: the pause, then back to IDLE (45_integrity_and_frame_loop.md R213). -/
def execDone (s : State) : Host.Outcome State Fault Refusal :=
  .next (runPause s.config.params.tPause returnToIdle s)

end Sys2Proof.Machine
end

