-- ==== Sys2Proof/Machine/LeadingBurst.lean ====
section
/-! DEFINITION. The idle step and the leading-burst check: IDLE, LB_WAIT_MARK, LB_RET_MARK, LB_WAIT_SPACE,
LB_RET_SPACE (43_leading_burst.md). A failure of an LB step is `goto IDLE` and nothing else (R165). -/

namespace Sys2Proof.Machine

/-- IDLE (43_leading_burst.md R160). -/
def execIdle (s : State) : Host.Outcome State Fault Refusal :=
  .next (goto .lbWaitMark s)

/-- LB_WAIT_MARK (43_leading_burst.md R161). -/
def execLbWaitMark (s : State) : Host.Outcome State Fault Refusal :=
  .next (runWait .mark s.config.params.tLeadMarkWait (goto .lbRetMark) (goto .idle) s)

/-- LB_RET_MARK (43_leading_burst.md R162). -/
def execLbRetMark (s : State) : Host.Outcome State Fault Refusal :=
  .next (runRetain .mark s.config.params.tLeadMarkRetain (goto .lbWaitSpace) (goto .idle) s)

/-- LB_WAIT_SPACE (43_leading_burst.md R163). -/
def execLbWaitSpace (s : State) : Host.Outcome State Fault Refusal :=
  .next (runWait .nonMark s.config.params.tLeadSpaceWait (goto .lbRetSpace) (goto .idle) s)

/-- LB_RET_SPACE (43_leading_burst.md R164). -/
def execLbRetSpace (s : State) : Host.Outcome State Fault Refusal :=
  .next (runRetain .nonMark s.config.params.tLeadSpaceRetain (goto .decInit) (goto .idle) s)

end Sys2Proof.Machine
end

