-- ==== Sys2Proof/Machine/Dispatch.lean ====
section
/-! DEFINITION. The step rule of each step of the micro-sequence (42_wait_and_retain.md R135). -/

namespace Sys2Proof.Machine

def exec (i : Instr) (s : State) : Host.Outcome State Fault Refusal :=
  match i with
  | .idle => Sys2Proof.Machine.execIdle s
  | .lbWaitMark => Sys2Proof.Machine.execLbWaitMark s
  | .lbRetMark => Sys2Proof.Machine.execLbRetMark s
  | .lbWaitSpace => Sys2Proof.Machine.execLbWaitSpace s
  | .lbRetSpace => Sys2Proof.Machine.execLbRetSpace s
  | .decInit => Sys2Proof.Machine.execDecInit s
  | .fbWaitMark => Sys2Proof.Machine.execFbWaitMark s
  | .brRetMark => Sys2Proof.Machine.execBrRetMark s
  | .brWaitSpace => Sys2Proof.Machine.execBrWaitSpace s
  | .brRetSpace => Sys2Proof.Machine.execBrRetSpace s
  | .bitHead => Sys2Proof.Machine.execBitHead s
  | .bitWaitMark => Sys2Proof.Machine.execBitWaitMark s
  | .zRetSpace => Sys2Proof.Machine.execZRetSpace s
  | .zWaitMark => Sys2Proof.Machine.execZWaitMark s
  | .check => Sys2Proof.Machine.execCheck s
  | .done => Sys2Proof.Machine.execDone s

end Sys2Proof.Machine
end

