-- ==== Sys2Proof/Machine/Step.lean ====
section
/-! DEFINITION. One tick of the block (42_wait_and_retain.md R135), and placing a step where the next tick finds
it. -/

namespace Sys2Proof.Machine

/-- One tick: reset if `rst` is 1; otherwise the pulses are cleared, the rule of the step whose code is in `step`
is evaluated, and `now` is incremented (42_wait_and_retain.md R135). -/
def step (s : State) : Host.Outcome State Fault Refusal :=
  if s.pins.rst then .next (resetTick s)
  else
    match exec (decode s.stepReg) (beginTick s) with
    | .next t => .next (endTick t)
    | .fault r => .fault r
    | .refused r => .refused r

/-- `s` with the step of this code in the register `step`, and `rst` at 0 at this tick so that its rule is
evaluated; the sample of this tick and all later input stay as they were (notes/assumptions/9.md). -/
def State.withFetchWord (s : State) (_nbits w : Nat) : State :=
  { s with
    stepReg := BitVec.ofNat 4 w
    waveform := ⟨false, s.pins.adcIn⟩ :: s.waveform.tail }

end Sys2Proof.Machine
end

