-- ==== Sys2Proof/Machine/Outputs.lean ====
section
/-! DEFINITION. The output ports (10_state.md R21): the registers of the same names, and `phase`. -/

namespace Sys2Proof.Machine

/-- The value of the port `result` (30_encoding.md R89). -/
def Result.code : Result → BitVec 3
  | .none => 0
  | .accepted => 1
  | .rejTimeout => 2
  | .rejIntegrity => 3
  | .rejDeadline => 4

/-- The source's Frame Loop states, the values of the port `phase` (30_encoding.md R90). -/
inductive Phase where
  | idle | leadingBurstWait | decoding | accepted | rejected
deriving DecidableEq, Repr

/-- The value of the port `phase` (30_encoding.md R90). -/
def Phase.code : Phase → BitVec 3
  | .idle => 0
  | .leadingBurstWait => 1
  | .decoding => 2
  | .accepted => 3
  | .rejected => 4

/-- `phase`, a combinational function of `step` and `result` (45_integrity_and_frame_loop.md R216). -/
def State.phase (s : State) : Phase :=
  if s.stepReg = 0 then .idle
  else if s.stepReg ≤ 4 then .leadingBurstWait
  else if s.stepReg ≤ 14 then .decoding
  else if s.result = .accepted then .accepted
  else .rejected

/-- The output ports of 10_state.md R21. -/
structure OutputPorts where
  frameValid  : Bool
  address     : Byte
  data        : Byte
  rejectValid : Bool
  result      : BitVec 3
  phase       : BitVec 3
  dbgPollTick : Bool
  dbgBitTick  : Bool
deriving DecidableEq, Repr

/-- What the outside sees of a state: every output is the register of the same name, except `phase`
(10_state.md R21). -/
def State.outputs (s : State) : OutputPorts where
  frameValid := s.frameValid
  address := s.address
  data := s.data
  rejectValid := s.rejectValid
  result := s.result.code
  phase := s.phase.code
  dbgPollTick := s.dbgPollTick
  dbgBitTick := s.dbgBitTick

end Sys2Proof.Machine
end

