-- ==== Sys2Proof/Machine/Waveform.lean ====
section
/-! DEFINITION. The waveform notation (30_encoding.md R94, R95): the block's "programs" written as segments, and
the pin values they stand for. -/

namespace Sys2Proof.Machine

/-- A segment of a waveform: `M<n>`, `N<n>`, `X<n>`, `V<v>:<n>` (30_encoding.md R94). -/
inductive Segment where
  | mark (n : Nat)
  | nonMark (n : Nat)
  | indeterminate (n : Nat)
  | value (v n : Nat)
deriving DecidableEq, Repr

/-- The reading a segment presents: 0, `FULL_SCALE`, `(FULL_SCALE + 1) / 2`, or the value given. -/
def Segment.reading (p : Params) : Segment → Nat
  | .mark _ => 0
  | .nonMark _ => p.fullScale
  | .indeterminate _ => (p.fullScale + 1) / 2
  | .value v _ => v

/-- How many ticks a segment lasts. -/
def Segment.length : Segment → Nat
  | .mark n => n
  | .nonMark n => n
  | .indeterminate n => n
  | .value _ n => n

/-- The pin values of a segment, one entry a tick, with `rst` at 0. -/
def Segment.expand (p : Params) (g : Segment) : List PinInput :=
  List.replicate g.length ⟨false, BitVec.ofNat 16 (g.reading p)⟩

/-- The pin values of a waveform, in order (30_encoding.md R94). -/
def expandWaveform (p : Params) (w : List Segment) : List PinInput := w.flatMap (Segment.expand p)

/-- `PRE(m,s)` = `M<m> N<s>` (30_encoding.md R95); the defaults are those of `PRE` alone. -/
def preamble (m : Nat := 9000) (s : Nat := 4500) : List Segment := [.mark m, .nonMark s]

/-- `ONE(b,s)` = `M<b> N<s>` with a short space (30_encoding.md R95). -/
def slotOne (b : Nat := 300) (s : Nat := 350) : List Segment := [.mark b, .nonMark s]

/-- `ZERO(b,s)` = `M<b> N<s>` with a long space (30_encoding.md R95). -/
def slotZero (b : Nat := 300) (s : Nat := 1350) : List Segment := [.mark b, .nonMark s]

/-- `STOP(b)` = `M<b>` (30_encoding.md R95). -/
def stopBurst (b : Nat := 300) : List Segment := [.mark b]

/-- `FRAME(w; B, S1, S0)`: the 32 slots of `w` from bit 31 down to bit 0, then the stop burst (30_encoding.md
R95, 95_test_vectors.md). -/
def frame (w : Word) (b : Nat := 300) (s1 : Nat := 350) (s0 : Nat := 1350) : List Segment :=
  (List.range 32).flatMap (fun k => if w.getLsbD (31 - k) then slotOne b s1 else slotZero b s0) ++ stopBurst b

end Sys2Proof.Machine
end

