-- ==== Sys2Proof/Safety.lean ====
section
/-! DEFINITION. What the claims speak of: runs of several ticks, the outcome of a step as its row of the step
table words it, the bounds on a decode attempt (44_frame_decode.md R190, R191), the invariant of the block, and
the registers a tick can still read. -/

namespace Sys2Proof

/-- The latest BIT_HEAD after `zeros` and `ones` classifications, in ticks after DEC_INIT (44_frame_decode.md
R190: `1555 + 1957 z + 955 o` with the defaults). -/
def Params.headBound (p : Params) (zeros ones : Nat) : Nat :=
  p.firstHeadBound + p.zeroIterationBound * zeros + p.oneIterationBound * ones

/-- The ticks from the first tick of BR_RET_MARK to BIT_HEAD, at most: three windows and the tick each of the
three steps starts with. -/
def Params.burstTail (p : Params) : Nat := p.tBurstMarkRetain + p.tBurstSpaceWait + p.tBurstSpaceRetain + 3

/-- Counted from DEC_INIT, the latest first tick of each decode step after `zeros` and `ones` classifications
(the derivation of 44_frame_decode.md R191). The last classification before Z_RET_SPACE and Z_WAIT_MARK was a
0. -/
def Params.armBound (p : Params) (zeros ones : Nat) : Instr → Nat
  | .fbWaitMark  => 1
  | .brRetMark   => p.headBound zeros ones - p.burstTail
  | .brWaitSpace => p.headBound zeros ones - (p.tBurstSpaceWait + p.tBurstSpaceRetain + 2)
  | .brRetSpace  => p.headBound zeros ones - (p.tBurstSpaceRetain + 1)
  | .bitHead     => p.headBound zeros ones
  | .bitWaitMark => p.headBound zeros ones + 1
  | .zRetSpace   => p.headBound (zeros - 1) ones + p.tBitMarkWait + 2
  | .zWaitMark   => p.headBound (zeros - 1) ones + p.tBitMarkWait + p.tZeroSpaceRetain + 3
  | .check       => p.headBound zeros ones + 1
  | .idle | .lbWaitMark | .lbRetMark | .lbWaitSpace | .lbRetSpace | .decInit | .done => 0

/-- The latest BIT_HEAD there can be: the first one, or one iteration after a BIT_HEAD at which the deadline had
not passed. 44_frame_decode.md R191 gives the second alone; the maximum is the model's own correction
(DEDUCED, notes/assumptions/13.md). -/
def Params.lastHead (p : Params) : Nat := max p.firstHeadBound (p.tFrame - 1 + p.zeroIterationBound)

/-- The same latest first ticks as `armBound`, from the frame deadline instead of the number of bits. -/
def Params.deadlineBound (p : Params) : Instr → Nat
  | .fbWaitMark  => 1
  | .brRetMark   => p.lastHead - p.burstTail
  | .brWaitSpace => p.lastHead - (p.tBurstSpaceWait + p.tBurstSpaceRetain + 2)
  | .brRetSpace  => p.lastHead - (p.tBurstSpaceRetain + 1)
  | .bitHead     => p.lastHead
  | .bitWaitMark => p.tFrame
  | .zRetSpace   => p.tFrame + p.tBitMarkWait + 1
  | .zWaitMark   => p.tFrame + p.tBitMarkWait + p.tZeroSpaceRetain + 2
  | .check       => p.lastHead + 1
  | .idle | .lbWaitMark | .lbRetMark | .lbWaitSpace | .lbRetSpace | .decInit | .done => 0

end Sys2Proof

namespace Sys2Proof.Machine

/-- `n` ticks. -/
def run : Nat → State → Host.Outcome State Fault Refusal
  | 0, s => .next s
  | n + 1, s =>
    match step s with
    | .next t => run n t
    | .fault r => .fault r
    | .refused r => .refused r

/-- `rst` is 0 at each of the next `n` ticks. -/
def State.noReset (s : State) (n : Nat) : Prop := ∀ k, k < n → (s.pinsAt k).rst = false

/-- The row of the step table of the step whose code is in `step`. -/
def State.row (s : State) : StepRow := stepTable s.config.params (decode s.stepReg)

/-- What "succeed" writes in a step that lasts several ticks: `goto` its successor (42_wait_and_retain.md R139);
BIT_WAIT_MARK first classifies the bit as 1 (44_frame_decode.md R182). -/
def succeedState (i : Instr) (u : State) : State :=
  match i with
  | .bitWaitMark =>
    { u with
      raw := u.raw ||| (1#32 <<< (u.idx.toNat % 32))
      idx := u.idx - 1
      dbgBitTick := true
      stepReg := encode .brRetMark
      armed := false }
  | i =>
    match (stepTable u.config.params i).onSuccess with
    | j :: _ => { u with stepReg := encode j, armed := false }
    | [] => u

/-- What "fail" writes: `goto IDLE` or the failure entry (42_wait_and_retain.md R139, 60_exceptions.md R250);
BIT_WAIT_MARK classifies the bit as 0 (44_frame_decode.md R182). -/
def failState (i : Instr) (u : State) : State :=
  match i with
  | .bitWaitMark =>
    { u with
      idx := u.idx - 1
      dbgBitTick := true
      stepReg := encode .zRetSpace
      armed := false }
  | i =>
    match (stepTable u.config.params i).onFailure with
    | .goto j => { u with stepReg := encode j, armed := false }
    | .raise f =>
      { u with
        result := f.result
        rejectValid := true
        stepReg := encode .done
        armed := false }
    | .cannotFail => u

/-- How many bits of a word are 1. -/
def onesIn (w : Word) : Nat := (List.range 32).countP fun j => w.getLsbD j

/-- How many bits were classified when `idx` has this value: `idx = 31 − k mod 64` (44_frame_decode.md R185). -/
def bitsClassified (idx : BitVec 6) : Nat := (31#6 - idx).toNat

/-- How long the current step has been timed by `WT`: 0 at its first tick. -/
def State.waited (s : State) : Nat := if s.armed then (elapsed s.now s.wt).toNat else 0

/-- How many of the classified bits are 1 and 0. -/
def State.ones (s : State) : Nat := onesIn s.raw
def State.zeros (s : State) : Nat := bitsClassified s.idx - onesIn s.raw

/-- A decode attempt is under way and `FT` has been started: the step is one of 6 to 14. -/
def State.decoding (s : State) : Prop := 6 ≤ s.stepReg.toNat ∧ s.stepReg.toNat ≤ 14

/-- The invariant of the block: what holds at reset and after every tick (10_state.md R25 to R32,
41_deadline_timer.md R125, 42_wait_and_retain.md R140, 44_frame_decode.md R185 to R191 with
notes/assumptions/13.md, 45_integrity_and_frame_loop.md R216). -/
structure Inv (s : State) : Prop where
  /-- only a WAIT, RETAIN or PAUSE step is armed, its window is in `WT`, and the window has not been passed
  (R23, R25, R125) -/
  armed_window : s.armed = true →
    s.row.kind ≠ .ctrl ∧ s.wt.dur = BitVec.ofNat 32 s.row.window ∧ 1 ≤ s.waited ∧ s.waited ≤ s.row.window
  /-- `idx` is 0 to 31, or 63 (R28) -/
  idx_range : s.idx.toNat ≤ 31 ∨ s.idx = 63
  /-- no bit is classified before the first burst is consumed (R176) -/
  first_burst : s.stepReg = 6 → s.idx = 31
  /-- BIT_WAIT_MARK is entered only with a bit to classify (R182) -/
  bit_left : s.stepReg = 11 → s.idx.toNat ≤ 31
  /-- Z_RET_SPACE and Z_WAIT_MARK follow a classification as 0 (R182) -/
  zero_counted : s.stepReg = 12 ∨ s.stepReg = 13 → 1 ≤ s.zeros
  /-- CHECK is entered only with all 32 bits assembled (R212) -/
  all_bits : s.stepReg = 14 → s.idx = 63
  /-- the bits not yet classified are 0 (R185) -/
  raw_unclassified : s.idx.toNat ≤ 31 → ∀ j, j ≤ s.idx.toNat → s.raw.getLsbD j = false
  /-- during a decode attempt `FT` holds the frame deadline (R26) and has run no longer than the windows (R125,
  R191) and the deadline allow; the second bound is not R191's but the model's own correction of it (DEDUCED,
  notes/assumptions/13.md) -/
  frame_timer : s.decoding →
    s.ft.dur = BitVec.ofNat 32 s.config.params.tFrame ∧
    1 ≤ (elapsed s.now s.ft).toNat ∧
    (elapsed s.now s.ft).toNat ≤ s.config.params.armBound s.zeros s.ones (decode s.stepReg) + s.waited ∧
    (elapsed s.now s.ft).toNat ≤ s.config.params.deadlineBound (decode s.stepReg) + s.waited
  /-- in DONE an attempt has finished (R216) -/
  done_result : s.stepReg = 15 → s.result ≠ .none
  /-- `frame_valid` is 1 only right after CHECK passed, with the bytes of the accepted word on the ports (R214) -/
  frame_valid : s.frameValid = true →
    s.stepReg = 15 ∧ s.armed = false ∧ s.result = .accepted ∧ frameOk s.raw = true ∧
    s.address = addressField s.raw ∧ s.data = dataField s.raw
  /-- `reject_valid` is 1 only right after a failure entry (R250) -/
  reject_valid : s.rejectValid = true →
    s.stepReg = 15 ∧ s.armed = false ∧
    (s.result = .rejTimeout ∨ s.result = .rejIntegrity ∨ s.result = .rejDeadline)
  /-- `dbg_bit_tick` is 1 only right after a classification (R193) -/
  bit_tick : s.dbgBitTick = true → (s.stepReg = 7 ∨ s.stepReg = 12) ∧ s.armed = false
  /-- `dbg_poll_tick` is 1 only right after an arm tick of a WAIT step: `WT` was started one tick ago, and the WAIT is
  armed, or it failed into IDLE, into Z_RET_SPACE with its bit classified, or into DONE with its failure reported
  (R32, R140) -/
  poll_tick : s.dbgPollTick = true →
    elapsed s.now s.wt = 1 ∧
    ((s.armed = true ∧ ∃ l, s.row.kind = .wait l) ∨
      (s.armed = false ∧
        (s.stepReg = 0 ∨ (s.stepReg = 12 ∧ s.dbgBitTick = true) ∨ (s.stepReg = 15 ∧ s.rejectValid = true))))

/-- Two states agree on everything a later tick can read before it is written again, and on the outputs: `WT`
is read only while armed (10_state.md R25); `FT`, `raw` and `idx` only from DEC_INIT's successor to CHECK
(R26 to R28, 45_integrity_and_frame_loop.md R219). -/
structure SameLive (s t : State) : Prop where
  config : s.config = t.config
  waveform : s.waveform = t.waveform
  ticks : s.ticks = t.ticks
  stepReg : s.stepReg = t.stepReg
  armed : s.armed = t.armed
  now : s.now = t.now
  wt : s.armed = true → s.wt = t.wt
  attempt : s.decoding → s.ft = t.ft ∧ s.raw = t.raw ∧ s.idx = t.idx
  address : s.address = t.address
  data : s.data = t.data
  result : s.result = t.result
  pulses : s.frameValid = t.frameValid ∧ s.rejectValid = t.rejectValid ∧
    s.dbgPollTick = t.dbgPollTick ∧ s.dbgBitTick = t.dbgBitTick

/-- The same state at another absolute time: `now` and the starts of both timers moved by `d`. -/
def shiftTime (d : Word) (s : State) : State :=
  { s with
    now := s.now + d
    wt := ⟨s.wt.start + d, s.wt.dur⟩
    ft := ⟨s.ft.start + d, s.ft.dur⟩ }

end Sys2Proof.Machine
end

