-- ==== Sys2Proof/Certificates/Slice0/Obligations.lean ====
section
/-! DEFINITION. The statements for the provers. Many rules of this spec carry the mark `[decision: ...]` (the
spec's own choice, 92_eei_decisions.md; notes/assumptions/12.md) or `[derived: ...]`; a statement that rests on
such a clause cites the section it stands in and no rule. -/

open Sys2Proof Sys2Proof.Machine

/-! ## Encoding and the tick -/

/-- 30_encoding.md R88, column "code": the codes 0 to 15 are the 16 steps in the table's order. The numbers are
the spec's own choice (D14, notes/assumptions/12.md). -/
def Obligations.StepCodesReadAsTheTableSays : Prop :=
  decode 0b0000#4 = .idle ∧ decode 0b0001#4 = .lbWaitMark ∧ decode 0b0010#4 = .lbRetMark ∧
  decode 0b0011#4 = .lbWaitSpace ∧ decode 0b0100#4 = .lbRetSpace ∧ decode 0b0101#4 = .decInit ∧
  decode 0b0110#4 = .fbWaitMark ∧ decode 0b0111#4 = .brRetMark ∧ decode 0b1000#4 = .brWaitSpace ∧
  decode 0b1001#4 = .brRetSpace ∧ decode 0b1010#4 = .bitHead ∧ decode 0b1011#4 = .bitWaitMark ∧
  decode 0b1100#4 = .zRetSpace ∧ decode 0b1101#4 = .zWaitMark ∧ decode 0b1110#4 = .check ∧
  decode 0b1111#4 = .done

/-- 10_state.md R22: "all 16 codes are steps, so there is no illegal value"; encoder and decoder are inverse to
each other, and a table word is read by its low 4 bits alone (notes/assumptions/8.md). -/
def Obligations.CodesAndStepsAreOneToOne : Prop :=
  (∀ i : Instr, decode (encode i) = i) ∧
  (∀ c : BitVec 4, encode (decode c) = c) ∧
  (∀ (i : Instr) (nbits high : Nat), 4 ≤ nbits →
    decodeTableWord nbits (16 * high + (encode i).toNat) = some i)

/-- 42_wait_and_retain.md R135: at a tick with `rst` 0 the pulses are cleared, the rule of the step whose code is
in `step` is evaluated, and `now` is incremented; the pins move on by one tick (notes/assumptions/1.md). -/
def Obligations.TickRunsTheDecodedStep : Prop :=
  ∀ (s u : State) (i : Instr),
    s.pins.rst = false → decode s.stepReg = i →
    exec i { s with frameValid := false, rejectValid := false, dbgPollTick := false, dbgBitTick := false }
      = .next u →
    step s = .next { u with now := u.now + 1, waveform := u.waveform.tail, ticks := u.ticks + 1 }

/-! ## Reset -/

/-- 70_reset_and_hazards.md R270: a tick with `rst` 1 writes every register with its reset value, whatever the
state and the sample; the configuration stays and the input moves on (model's own fields, notes/assumptions/1.md
and 2.md). The reset values are the spec's own choice (D10, notes/assumptions/12.md). -/
def Obligations.ResetTickWritesEveryRegister : Prop :=
  ∀ s : State, s.pins.rst = true →
    step s = .next
      { config := s.config, waveform := s.waveform.tail, ticks := s.ticks + 1,
        stepReg := 0, armed := false, now := 0, wt := ⟨0, 0⟩, ft := ⟨0, 0⟩, raw := 0, idx := 31,
        address := 0, data := 0, result := .none,
        frameValid := false, rejectValid := false, dbgPollTick := false, dbgBitTick := false }

/-- 70_reset_and_hazards.md R271, R272: the registers after reset, the phase they give, and the first tick with
`rst` 0, which is step IDLE. The reset values are the spec's own choice (D10, notes/assumptions/12.md); the
configuration after reset is one of the legal default configurations (notes/assumptions/2.md, 3.md). -/
def Obligations.ResetStateAndFirstTick : Prop :=
  (State.reset.stepReg = 0 ∧ State.reset.armed = false ∧ State.reset.now = 0 ∧
    State.reset.wt = ⟨0, 0⟩ ∧ State.reset.ft = ⟨0, 0⟩ ∧ State.reset.raw = 0 ∧ State.reset.idx = 31 ∧
    State.reset.address = 0 ∧ State.reset.data = 0 ∧ State.reset.result = .none ∧
    State.reset.frameValid = false ∧ State.reset.rejectValid = false ∧
    State.reset.dbgPollTick = false ∧ State.reset.dbgBitTick = false ∧ State.reset.phase = .idle) ∧
  (∃ low, 1 ≤ low ∧ low ≤ 511 ∧ State.reset.config.params = Params.withDefaults low) ∧
  (∀ p : PinInput, p.rst = false →
    ∃ t, step { State.reset with waveform := [p] } = .next t ∧ t.stepReg = 1 ∧ t.armed = false ∧ t.now = 1)

/-- 00_scope.md R9: an illegal configuration is refused; in particular `LOW_THRESHOLD = 0`,
`2 × LOW_THRESHOLD > FULL_SCALE`, a window of 0 and `E_max ≥ 2^32`. A legal one gives the reset state. The bounds
are the spec's own choice (D8, notes/assumptions/5.md). -/
def Obligations.IllegalConfigurationsAreRefused : Prop :=
  ∀ (p : Params) (w : List PinInput),
    ((p.adcBits < 2 ∨ 16 < p.adcBits ∨ p.lowThreshold = 0 ∨ 2 * p.lowThreshold > p.fullScale ∨
        (∃ d ∈ p.durations, d = 0 ∨ d ≥ 2 ^ 31) ∨ p.eMax ≥ 2 ^ 32) →
      build p w = .refused .illegalConfiguration) ∧
    (¬ (p.adcBits < 2 ∨ 16 < p.adcBits ∨ p.lowThreshold = 0 ∨ 2 * p.lowThreshold > p.fullScale ∨
        (∃ d ∈ p.durations, d = 0 ∨ d ≥ 2 ^ 31) ∨ p.eMax ≥ 2 ^ 32) →
      ∃ c : Config, c.params = p ∧ build p w = .next (State.resetOf c w 0))

/-! ## Levels, timers, integrity -/

/-- 40_level_sampler.md R110: the two predicates, both strict, on a sample of `ADC_BITS` bits, and the rule's
corner cases and example. -/
def Obligations.SampleLevelPredicates : Prop :=
  ∀ c : Config,
    (∀ a : Reading, readingOf c a < 2 ^ c.params.adcBits) ∧
    (∀ x : Nat, isMark c x = true ↔ x < c.params.lowThreshold) ∧
    (∀ x : Nat, isNonMark c x = true ↔ x > c.params.fullScale - c.params.lowThreshold) ∧
    isMark c c.params.lowThreshold = false ∧
    isNonMark c (c.params.fullScale - c.params.lowThreshold) = false ∧
    isMark c 0 = true ∧ isNonMark c c.params.fullScale = true ∧
    (c.params.lowThreshold = 300 → isMark c 299 = true ∧ isMark c 300 = false)

/-- 40_level_sampler.md R112 to R114, 20_memory.md R61 and 30_encoding.md R86: the level code is
`{is_nonmark, is_mark}`, the two predicates are never both true, so code `11` does not occur; Indeterminate is
`LOW <= s <= HIGH`. The level the step rules test is that of this tick's sample and of nothing else: the low
`ADC_BITS` bits of `adc_in` (DEDUCED, notes/assumptions/4.md), which is the next entry of the waveform where there is
one (the model's own, notes/assumptions/1.md). -/
def Obligations.LevelCodeJoinsThePredicates : Prop :=
  (∀ (c : Config) (x : Nat),
    (levelOf c x).code = BitVec.ofBool (isNonMark c x) ++ BitVec.ofBool (isMark c x) ∧
    ¬ (isMark c x = true ∧ isNonMark c x = true) ∧
    (levelOf c x = .indeterminate ↔
      c.params.lowThreshold ≤ x ∧ x ≤ c.params.fullScale - c.params.lowThreshold)) ∧
  (∀ (c : Config) (a : Reading), readingOf c a = a.toNat % 2 ^ c.params.adcBits) ∧
  (∀ (s : State) (k : Nat),
    s.levelAt k = levelOf s.config (readingOf s.config (s.pinsAt k).adcIn) ∧
    s.level = s.levelAt 0 ∧ s.pins = s.pinsAt 0 ∧
    (∀ p : PinInput, s.waveform[k]? = some p → s.pinsAt k = p) ∧
    (∀ t : State, step s = .next t → t.levelAt k = s.levelAt (k + 1)))

/-- 41_deadline_timer.md R121, R122: `elapsed` is the difference modulo 2^32, so `n` ticks after a `start` it is
`n`; `start` writes both registers of its timer and nothing else. -/
def Obligations.ElapsedCountsTicksSinceStart : Prop :=
  (∀ (now : Word) (t : Timer),
    (elapsed now t).toNat = (now.toNat + (2 ^ 32 - t.start.toNat)) % 2 ^ 32) ∧
  (∀ (s : State) (w n : Nat), w < 2 ^ 32 →
    startWT w s = { s with wt := (startWT w s).wt } ∧
    startFT w s = { s with ft := (startFT w s).ft } ∧
    (startWT w s).wt.dur.toNat = w ∧ (startFT w s).ft.dur.toNat = w ∧
    (elapsed (s.now + BitVec.ofNat 32 n) (startWT w s).wt).toNat = n % 2 ^ 32 ∧
    (elapsed (s.now + BitVec.ofNat 32 n) (startFT w s).ft).toNat = n % 2 ^ 32)

/-- 41_deadline_timer.md R123, R124, R284: `expired` compares `elapsed` with the duration, `>=` and unsigned; and
from the tick `elapsed` reaches the duration on it stays true for the next `2^32 − duration − 1` ticks, across a
wrap of `now`. The second clause, the agreement with the source's `now ≥ start + duration`, is narrower than R123's
remark: beside R123's condition that the sum does not overflow it asks that `now` has not wrapped past `start`, a
condition of the model's own (DEDUCED, notes/assumptions/14.md). -/
def Obligations.ExpiryIsModularAndLasts : Prop :=
  ∀ (now : Word) (t : Timer),
    (expired now t = true ↔ t.dur.toNat ≤ (elapsed now t).toNat) ∧
    (t.start.toNat + t.dur.toNat < 2 ^ 32 → t.start.toNat ≤ now.toNat →
      (expired now t = true ↔ t.start.toNat + t.dur.toNat ≤ now.toNat)) ∧
    (∀ n : Nat, t.dur.toNat ≤ n → n < 2 ^ 32 → expired (t.start + BitVec.ofNat 32 n) t = true) ∧
    (∀ n : Nat, n < t.dur.toNat → expired (t.start + BitVec.ofNat 32 n) t = false)

/-- 45_integrity_and_frame_loop.md R210: the predicate, its equivalent forms, that of a wider value only the low 8
bits take part, and the rule's examples. -/
def Obligations.IntegrityIsBitwiseComplement : Prop :=
  (∀ v vInv : Byte,
    (checkIntegrity v vInv = true ↔ v ^^^ vInv = 0xFF#8) ∧
    (checkIntegrity v vInv = true ↔ vInv = ~~~v &&& 0xFF#8) ∧
    (checkIntegrity v vInv = true ↔ v.toNat + vInv.toNat = 255) ∧
    (checkIntegrity v vInv = true ↔ ∀ j, j < 8 → v.getLsbD j ≠ vInv.getLsbD j)) ∧
  (∀ raw : Word, frameOk raw =
    (checkIntegrity ((raw >>> 24).setWidth 8) ((raw >>> 16).setWidth 8) &&
      checkIntegrity ((raw >>> 8).setWidth 8) (raw.setWidth 8))) ∧
  checkIntegrity 0x12 0xED = true ∧ checkIntegrity 0x12 0x00 = false

/-- 45_integrity_and_frame_loop.md R211, R221 and 44_frame_decode.md R190: a word passes exactly when it is
`{a, ~a, d, ~d}` for some bytes, and then exactly 16 of its bits are 1. -/
def Obligations.AcceptedWordsAreComplementPairs : Prop :=
  ∀ raw : Word,
    (frameOk raw = true ↔ ∃ a d : Byte, raw = a ++ ~~~a ++ d ++ ~~~d) ∧
    (frameOk raw = true → onesIn raw = 16)

/-- 60_exceptions.md R250: the failure entry, its codes, what it leaves alone, the arm tick of DONE that follows
it and ends the pulse, and that a failing LB step does `goto IDLE` alone. -/
def Obligations.FailureEntryWrites : Prop :=
  (∀ (f : Failure) (s : State),
    raise f s = { s with result := f.result, rejectValid := true, stepReg := 15, armed := false }) ∧
  (Failure.timeout.result.code = 2 ∧ Failure.integrity.result.code = 3 ∧
    Failure.deadlineExhaustion.result.code = 4) ∧
  (∀ (f : Failure) (s : State), (s.pinsAt 1).rst = false → ∃ t,
    step (endTick (raise f s)) = .next t ∧ t.stepReg = 15 ∧ t.rejectValid = false ∧
    t.wt = ⟨s.now + 1, BitVec.ofNat 32 s.config.params.tPause⟩) ∧
  (∀ (s t : State) (i : Instr), i ∈ [Instr.lbWaitMark, .lbRetMark, .lbWaitSpace, .lbRetSpace] →
    decode s.stepReg = i → exec i s = .next t → t.stepReg = 0 →
    t = { s with wt := t.wt, dbgPollTick := t.dbgPollTick, stepReg := 0, armed := false })

/-! ## What each step does, as whole next states -/

/-- 43_leading_burst.md R160: IDLE is `goto LB_WAIT_MARK`, whatever the sample. -/
def Obligations.IdleStartsAPreambleAttempt : Prop :=
  ∀ s : State, exec .idle s = .next { s with stepReg := 1, armed := false }

/-- 43_leading_burst.md R161, R163 (with 42_wait_and_retain.md R140, R141): LB_WAIT_MARK and LB_WAIT_SPACE on
every tick; nothing but the named registers changes. That a failure is not reported is the spec's own choice
(D18, notes/assumptions/12.md). -/
def Obligations.PreambleEdgeWaits : Prop :=
  (∀ s : State,
    exec .lbWaitMark s = .next
      (if s.armed then
        if s.level = .mark then { s with stepReg := 2, armed := false }
        else if expired s.now s.wt then { s with stepReg := 0, armed := false }
        else s
      else if s.level = .nonMark then
        { s with wt := ⟨s.now, BitVec.ofNat 32 s.config.params.tLeadMarkWait⟩, dbgPollTick := true, armed := true }
      else
        { s with
          wt := ⟨s.now, BitVec.ofNat 32 s.config.params.tLeadMarkWait⟩, dbgPollTick := true,
          stepReg := 0, armed := false })) ∧
  (∀ s : State,
    exec .lbWaitSpace s = .next
      (if s.armed then
        if s.level = .nonMark then { s with stepReg := 4, armed := false }
        else if expired s.now s.wt then { s with stepReg := 0, armed := false }
        else s
      else if s.level = .mark then
        { s with wt := ⟨s.now, BitVec.ofNat 32 s.config.params.tLeadSpaceWait⟩, dbgPollTick := true, armed := true }
      else
        { s with
          wt := ⟨s.now, BitVec.ofNat 32 s.config.params.tLeadSpaceWait⟩, dbgPollTick := true,
          stepReg := 0, armed := false }))

/-- 43_leading_burst.md R162, R164 (with 42_wait_and_retain.md R143): LB_RET_MARK and LB_RET_SPACE on every tick.
That Indeterminate does not fail a retention and that the timer is asked first are the spec's own choices (D16,
D17, notes/assumptions/12.md and 15.md). -/
def Obligations.PreambleRetentions : Prop :=
  (∀ s : State,
    exec .lbRetMark s = .next
      (if s.armed then
        if expired s.now s.wt then { s with stepReg := 3, armed := false }
        else if s.level = .nonMark then { s with stepReg := 0, armed := false }
        else s
      else if s.level = .nonMark then
        { s with wt := ⟨s.now, BitVec.ofNat 32 s.config.params.tLeadMarkRetain⟩, stepReg := 0, armed := false }
      else
        { s with wt := ⟨s.now, BitVec.ofNat 32 s.config.params.tLeadMarkRetain⟩, armed := true })) ∧
  (∀ s : State,
    exec .lbRetSpace s = .next
      (if s.armed then
        if expired s.now s.wt then { s with stepReg := 5, armed := false }
        else if s.level = .mark then { s with stepReg := 0, armed := false }
        else s
      else if s.level = .mark then
        { s with wt := ⟨s.now, BitVec.ofNat 32 s.config.params.tLeadSpaceRetain⟩, stepReg := 0, armed := false }
      else
        { s with wt := ⟨s.now, BitVec.ofNat 32 s.config.params.tLeadSpaceRetain⟩, armed := true }))

/-- 44_frame_decode.md R176: DEC_INIT starts `FT`, clears `raw`, sets `idx` to 31, and leaves `result`, `address`
and `data` alone. That the deadline starts here is the spec's own choice (D19, notes/assumptions/12.md). -/
def Obligations.DecodeInitialisation : Prop :=
  ∀ s : State,
    exec .decInit s = .next
      { s with
        ft := ⟨s.now, BitVec.ofNat 32 s.config.params.tFrame⟩, raw := 0, idx := 31,
        stepReg := 6, armed := false }

/-- 44_frame_decode.md R177, R179, R184 (with 42_wait_and_retain.md R140, R141): the three edge waits of a
decode attempt whose failure is a Timeout. FB_WAIT_MARK and its window are the spec's own choice (D6,
notes/assumptions/12.md). -/
def Obligations.DecodeEdgeWaits : Prop :=
  (∀ s : State,
    exec .fbWaitMark s = .next
      (if s.armed then
        if s.level = .mark then { s with stepReg := 7, armed := false }
        else if expired s.now s.wt then
          { s with result := .rejTimeout, rejectValid := true, stepReg := 15, armed := false }
        else s
      else if s.level = .nonMark then
        { s with wt := ⟨s.now, BitVec.ofNat 32 s.config.params.tFirstMarkWait⟩, dbgPollTick := true, armed := true }
      else
        { s with
          wt := ⟨s.now, BitVec.ofNat 32 s.config.params.tFirstMarkWait⟩, dbgPollTick := true,
          result := .rejTimeout, rejectValid := true, stepReg := 15, armed := false })) ∧
  (∀ s : State,
    exec .brWaitSpace s = .next
      (if s.armed then
        if s.level = .nonMark then { s with stepReg := 9, armed := false }
        else if expired s.now s.wt then
          { s with result := .rejTimeout, rejectValid := true, stepReg := 15, armed := false }
        else s
      else if s.level = .mark then
        { s with wt := ⟨s.now, BitVec.ofNat 32 s.config.params.tBurstSpaceWait⟩, dbgPollTick := true, armed := true }
      else
        { s with
          wt := ⟨s.now, BitVec.ofNat 32 s.config.params.tBurstSpaceWait⟩, dbgPollTick := true,
          result := .rejTimeout, rejectValid := true, stepReg := 15, armed := false })) ∧
  (∀ s : State,
    exec .zWaitMark s = .next
      (if s.armed then
        if s.level = .mark then { s with stepReg := 7, armed := false }
        else if expired s.now s.wt then
          { s with result := .rejTimeout, rejectValid := true, stepReg := 15, armed := false }
        else s
      else if s.level = .nonMark then
        { s with wt := ⟨s.now, BitVec.ofNat 32 s.config.params.tBitMarkWait⟩, dbgPollTick := true, armed := true }
      else
        { s with
          wt := ⟨s.now, BitVec.ofNat 32 s.config.params.tBitMarkWait⟩, dbgPollTick := true,
          result := .rejTimeout, rejectValid := true, stepReg := 15, armed := false }))

/-- 44_frame_decode.md R178, R180, R183 (with 42_wait_and_retain.md R143): the three retentions of a decode
attempt. The order of the tests and the treatment of Indeterminate are the spec's own choices (D16, D17,
notes/assumptions/12.md and 15.md). -/
def Obligations.DecodeRetentions : Prop :=
  (∀ s : State,
    exec .brRetMark s = .next
      (if s.armed then
        if expired s.now s.wt then { s with stepReg := 8, armed := false }
        else if s.level = .nonMark then
          { s with result := .rejTimeout, rejectValid := true, stepReg := 15, armed := false }
        else s
      else if s.level = .nonMark then
        { s with
          wt := ⟨s.now, BitVec.ofNat 32 s.config.params.tBurstMarkRetain⟩,
          result := .rejTimeout, rejectValid := true, stepReg := 15, armed := false }
      else
        { s with wt := ⟨s.now, BitVec.ofNat 32 s.config.params.tBurstMarkRetain⟩, armed := true })) ∧
  (∀ s : State,
    exec .brRetSpace s = .next
      (if s.armed then
        if expired s.now s.wt then { s with stepReg := 10, armed := false }
        else if s.level = .mark then
          { s with result := .rejTimeout, rejectValid := true, stepReg := 15, armed := false }
        else s
      else if s.level = .mark then
        { s with
          wt := ⟨s.now, BitVec.ofNat 32 s.config.params.tBurstSpaceRetain⟩,
          result := .rejTimeout, rejectValid := true, stepReg := 15, armed := false }
      else
        { s with wt := ⟨s.now, BitVec.ofNat 32 s.config.params.tBurstSpaceRetain⟩, armed := true })) ∧
  (∀ s : State,
    exec .zRetSpace s = .next
      (if s.armed then
        if expired s.now s.wt then { s with stepReg := 13, armed := false }
        else if s.level = .mark then
          { s with result := .rejTimeout, rejectValid := true, stepReg := 15, armed := false }
        else s
      else if s.level = .mark then
        { s with
          wt := ⟨s.now, BitVec.ofNat 32 s.config.params.tZeroSpaceRetain⟩,
          result := .rejTimeout, rejectValid := true, stepReg := 15, armed := false }
      else
        { s with wt := ⟨s.now, BitVec.ofNat 32 s.config.params.tZeroSpaceRetain⟩, armed := true }))

/-- 44_frame_decode.md R181: BIT_HEAD tests completion before the deadline. The place of the deadline test is the
spec's own choice (D19, notes/assumptions/12.md). -/
def Obligations.BitLoopHead : Prop :=
  ∀ s : State,
    exec .bitHead s = .next
      (if s.idx.getLsbD 5 then { s with stepReg := 14, armed := false }
      else if expired s.now s.ft then
        { s with result := .rejDeadline, rejectValid := true, stepReg := 15, armed := false }
      else { s with stepReg := 11, armed := false })

/-- 44_frame_decode.md R182: BIT_WAIT_MARK on every tick; a success writes `raw[idx[4:0]] <- 1`, both outcomes
decrement `idx` modulo 64, and neither raises a failure. -/
def Obligations.BitClassification : Prop :=
  ∀ s : State,
    exec .bitWaitMark s = .next
      (if s.armed then
        if s.level = .mark then
          { s with
            raw := s.raw ||| (1#32 <<< (s.idx.toNat % 32)), idx := s.idx - 1, dbgBitTick := true,
            stepReg := 7, armed := false }
        else if expired s.now s.wt then
          { s with idx := s.idx - 1, dbgBitTick := true, stepReg := 12, armed := false }
        else s
      else if s.level = .nonMark then
        { s with wt := ⟨s.now, BitVec.ofNat 32 s.config.params.tBitMarkWait⟩, dbgPollTick := true, armed := true }
      else
        { s with
          wt := ⟨s.now, BitVec.ofNat 32 s.config.params.tBitMarkWait⟩, dbgPollTick := true,
          idx := s.idx - 1, dbgBitTick := true, stepReg := 12, armed := false })

/-- 45_integrity_and_frame_loop.md R212: CHECK, with `raw[31:24]` and the other fields written as shifts of the
word; a rejected word leaves `address` and `data` alone. -/
def Obligations.IntegrityCheckStep : Prop :=
  ∀ s : State,
    exec .check s = .next
      (if ((s.raw >>> 24 ^^^ s.raw >>> 16) &&& 0xFF#32 = 0xFF#32) ∧
          ((s.raw >>> 8 ^^^ s.raw) &&& 0xFF#32 = 0xFF#32) then
        { s with
          address := (s.raw >>> 24).setWidth 8, data := (s.raw >>> 8).setWidth 8,
          result := .accepted, frameValid := true, stepReg := 15, armed := false }
      else { s with result := .rejIntegrity, rejectValid := true, stepReg := 15, armed := false })

/-- 42_wait_and_retain.md R145: PAUSE, which is step DONE: the pseudocode, that it cannot fail, that it lasts
exactly `W + 1` ticks, and that the signal plays no part in it (nothing is assumed of the samples). -/
def Obligations.PauseLastsItsWindowPlusOne : Prop :=
  (∀ s : State,
    exec .done s = .next
      (if s.armed then
        if expired s.now s.wt then { s with stepReg := 0, armed := false } else s
      else { s with wt := ⟨s.now, BitVec.ofNat 32 s.config.params.tPause⟩, armed := true })) ∧
  (∀ s : State, s.stepReg = 15 → s.armed = false → s.noReset (s.config.params.tPause + 1) →
    (∀ n, 1 ≤ n → n ≤ s.config.params.tPause →
      ∃ t, run n s = .next t ∧ t.stepReg = 15 ∧ t.armed = true ∧ t.rejectValid = false ∧ t.result = s.result) ∧
    (∃ t, run (s.config.params.tPause + 1) s = .next t ∧ t.stepReg = 0 ∧ t.armed = false ∧
      t.rejectValid = false ∧ t.result = s.result))

/-! ## The kinds of step -/

/-- 42_wait_and_retain.md R140: the arm tick of every WAIT step of the table: the timer is started and the poll
pulse given even when the tick fails, and only a sample at `opp(L)` lets the wait begin. -/
def Obligations.WaitArmTick : Prop :=
  ∀ (s : State) (i : Instr) (l : DefiniteLevel),
    (stepTable s.config.params i).kind = .wait l → s.armed = false →
    exec i s = .next
      (if s.level = l.opp.level then
        { s with
          wt := ⟨s.now, BitVec.ofNat 32 (stepTable s.config.params i).window⟩, dbgPollTick := true,
          armed := true }
      else
        failState i
          { s with wt := ⟨s.now, BitVec.ofNat 32 (stepTable s.config.params i).window⟩, dbgPollTick := true })

/-- 42_wait_and_retain.md R141: the poll tick of every WAIT step of the table: the level is tested before the
timer, and a tick that does neither changes nothing. -/
def Obligations.WaitPollTick : Prop :=
  ∀ (s : State) (i : Instr) (l : DefiniteLevel),
    (stepTable s.config.params i).kind = .wait l → s.armed = true →
    exec i s = .next
      (if s.level = l.level then succeedState i s
      else if expired s.now s.wt then failState i s
      else s)

/-- 42_wait_and_retain.md R143: both ticks of every RETAIN step of the table. Its two points on Indeterminate and
on the order of the tests are the spec's own choices (D16, D17, notes/assumptions/12.md and 15.md). -/
def Obligations.RetainTicks : Prop :=
  ∀ (s : State) (i : Instr) (l : DefiniteLevel),
    (stepTable s.config.params i).kind = .retain l →
    exec i s = .next
      (if s.armed then
        if expired s.now s.wt then succeedState i s
        else if s.level = l.opp.level then failState i s
        else s
      else if s.level = l.opp.level then
        failState i { s with wt := ⟨s.now, BitVec.ofNat 32 (stepTable s.config.params i).window⟩ }
      else { s with wt := ⟨s.now, BitVec.ofNat 32 (stepTable s.config.params i).window⟩, armed := true })

/-- 42_wait_and_retain.md R142: a WAIT armed at this tick succeeds at tick `n` when the sample now is `opp(L)`, no
sample before `n` is `L`, the sample at `n` is `L`, and `1 <= n <= W`; it fails at once when the sample now is
not `opp(L)`, and at tick `W` when no sample up to there is `L`. -/
def Obligations.WaitAcceptsTheFirstEdgeInItsWindow : Prop :=
  ∀ (s : State) (l : DefiniteLevel), s.row.kind = .wait l → s.armed = false →
    (∀ n, 1 ≤ n → n ≤ s.row.window → s.noReset (n + 1) →
      s.levelAt 0 = l.opp.level → (∀ k, 1 ≤ k → k < n → s.levelAt k ≠ l.level) → s.levelAt n = l.level →
      ∃ t u, run n s = .next t ∧ t.stepReg = s.stepReg ∧ t.armed = true ∧
        step t = .next u ∧ decode u.stepReg ∈ s.row.onSuccess ∧ u.armed = false) ∧
    (s.noReset 1 → s.levelAt 0 ≠ l.opp.level →
      ∃ u, step s = .next u ∧ decode u.stepReg ∈ s.row.onFailure.targets ∧ u.armed = false) ∧
    (s.noReset (s.row.window + 1) → s.levelAt 0 = l.opp.level →
      (∀ k, 1 ≤ k → k ≤ s.row.window → s.levelAt k ≠ l.level) →
      ∃ t u, run s.row.window s = .next t ∧ t.stepReg = s.stepReg ∧ t.armed = true ∧
        step t = .next u ∧ decode u.stepReg ∈ s.row.onFailure.targets ∧ u.armed = false)

/-- 42_wait_and_retain.md R144: a RETAIN armed at this tick succeeds at tick `W`, whatever the sample there, when
none of the `W` samples before it is `opp(L)`; it fails at the first of those samples that is. -/
def Obligations.RetainAcceptsAHeldLevel : Prop :=
  ∀ (s : State) (l : DefiniteLevel), s.row.kind = .retain l → s.armed = false →
    (s.noReset (s.row.window + 1) → (∀ k, k < s.row.window → s.levelAt k ≠ l.opp.level) →
      ∃ t u, run s.row.window s = .next t ∧ t.stepReg = s.stepReg ∧ t.armed = true ∧
        step t = .next u ∧ decode u.stepReg ∈ s.row.onSuccess ∧ u.armed = false) ∧
    (∀ n, n < s.row.window → s.noReset (n + 1) → (∀ k, k < n → s.levelAt k ≠ l.opp.level) →
      s.levelAt n = l.opp.level →
      ∃ t u, run n s = .next t ∧ t.stepReg = s.stepReg ∧
        step t = .next u ∧ decode u.stepReg ∈ s.row.onFailure.targets ∧ u.armed = false)

/-- 42_wait_and_retain.md R147: from the first tick of any step, whatever the input, the step is left within
`W + 1` ticks (after one tick for a CTRL step, whose window here is 0). -/
def Obligations.EveryVisitEnds : Prop :=
  ∀ s : State, s.armed = false → s.noReset (s.row.window + 1) →
    ∃ n t, n ≤ s.row.window ∧ run (n + 1) s = .next t ∧ t.stepReg ≠ s.stepReg ∧ t.armed = false ∧
      decode t.stepReg ∈ s.row.targets

/-- 42_wait_and_retain.md R150, its first formula (30_encoding.md R84): a pulse of `m` ticks whose first sample ended
a WAIT at the tick before this one, measured by RETAIN(R) and then WAIT(W) for the opposite level: the mark of the
preamble and the mark of a burst. From `R + 3` to `R + 2 + W` ticks it is accepted, at the first sample after it; a
shorter or a longer one fails. The second formula, for the preamble space, is `AcceptedPreambleSpaceWidths`. -/
def Obligations.AcceptedPulseWidths : Prop :=
  ∀ (s : State) (m r w : Nat) (next accepted : BitVec 4) (failed : Instr),
    (s.stepReg = 2 ∧ next = 3 ∧ accepted = 4 ∧ failed = .idle ∧
        r = s.config.params.tLeadMarkRetain ∧ w = s.config.params.tLeadSpaceWait) ∨
      (s.stepReg = 7 ∧ next = 8 ∧ accepted = 9 ∧ failed = .done ∧
        r = s.config.params.tBurstMarkRetain ∧ w = s.config.params.tBurstSpaceWait) →
    s.armed = false →
    (∀ k, k + 1 < m → s.levelAt k = .mark) →
    (r + 3 ≤ m → m ≤ r + 2 + w → s.noReset m → s.levelAt (m - 1) = .nonMark →
      ∃ t u, run (m - 1) s = .next t ∧ t.stepReg = next ∧ step t = .next u ∧ u.stepReg = accepted) ∧
    (1 ≤ m → m ≤ r + 2 → s.noReset (r + 2) → (∀ k, m ≤ k + 1 → k < r + 2 → s.levelAt k = .nonMark) →
      ∃ n t, n ≤ r + 2 ∧ run n s = .next t ∧ decode t.stepReg = failed) ∧
    (r + 2 + w < m → s.noReset (r + 2 + w) →
      ∃ t, run (r + 2 + w) s = .next t ∧ decode t.stepReg = failed)

/-- 30_encoding.md R84, 42_wait_and_retain.md R150, its second formula (one CTRL step between the RETAIN and the
WAIT): the preamble space, `m` ticks whose first sample ended LB_WAIT_SPACE at the tick before this one, measured by
LB_RET_SPACE and, over DEC_INIT, by FB_WAIT_MARK. From `R + 4` to `R + 3 + W` ticks (4,104 to 5,003 with the
defaults) it is accepted, at the first Mark after it. One of at most `R` ticks goes back to IDLE without an event
(43_leading_burst.md R164, R165); one of `R + 1` to `R + 3`, or a longer one or one without an end, is rejected with
REJ_TIMEOUT (44_frame_decode.md R177). FB_WAIT_MARK is the spec's own choice (D6, notes/assumptions/12.md). -/
def Obligations.AcceptedPreambleSpaceWidths : Prop :=
  ∀ (s : State) (m retain wait : Nat),
    retain = s.config.params.tLeadSpaceRetain → wait = s.config.params.tFirstMarkWait →
    s.stepReg = 4 → s.armed = false → (∀ k, k + 1 < m → s.levelAt k = .nonMark) →
    (retain + 4 ≤ m → m ≤ retain + 3 + wait → s.noReset m → s.levelAt (m - 1) = .mark →
      ∃ t u, run (m - 1) s = .next t ∧ t.stepReg = 6 ∧ step t = .next u ∧ u.stepReg = 7 ∧ u.armed = false ∧
        u.raw = 0 ∧ u.idx = 31 ∧ u.ft = ⟨s.now + BitVec.ofNat 32 (retain + 1), BitVec.ofNat 32 s.config.params.tFrame⟩) ∧
    (1 ≤ m → m ≤ retain → s.noReset m → s.levelAt (m - 1) = .mark →
      ∃ t, run m s = .next t ∧ t.stepReg = 0 ∧ t.rejectValid = false ∧ t.result = s.result) ∧
    (retain + 1 ≤ m → m ≤ retain + 3 → s.noReset (retain + 3) →
      (∀ k, m ≤ k + 1 → k < retain + 3 → s.levelAt k = .mark) →
      ∃ t, run (retain + 3) s = .next t ∧ t.stepReg = 15 ∧ t.rejectValid = true ∧ t.result = .rejTimeout) ∧
    (retain + 3 + wait < m → s.noReset (retain + 3 + wait) →
      ∃ t, run (retain + 3 + wait) s = .next t ∧ t.stepReg = 15 ∧ t.rejectValid = true ∧ t.result = .rejTimeout)

/-- 30_encoding.md R83 to R85, 44_frame_decode.md R187, R189: a whole slot of the frame as the block reads it, from
the tick after the first sample of a burst of `b` ticks, over a space of `n` ticks, to the next burst. Every `n` from
1 on falls under one of the five clauses. With the default windows and a burst of 153 to 452 ticks: a space of 204
to 503 is a 1, of 1,206 to 1,505 a 0; one of 1 to 203, of 504 to 1,205, and of 1,506 or more (or without an end) is
rejected with REJ_TIMEOUT. Each clause asks for as much of the next burst as the block looks at. The deadline is
taken not to pass in the slot. -/
def Obligations.BitSlotsAreReadFromTheirWidths : Prop :=
  ∀ (s : State) (b n burstRetain burstWait spaceRetain bitWait zeroRetain : Nat),
    burstRetain = s.config.params.tBurstMarkRetain → burstWait = s.config.params.tBurstSpaceWait →
    spaceRetain = s.config.params.tBurstSpaceRetain → bitWait = s.config.params.tBitMarkWait →
    zeroRetain = s.config.params.tZeroSpaceRetain →
    s.stepReg = 7 → s.armed = false → s.idx.toNat ≤ 31 →
    (elapsed s.now s.ft).toNat + b + n < s.ft.dur.toNat →
    burstRetain + 3 ≤ b → b ≤ burstRetain + 2 + burstWait →
    (∀ k, k + 1 < b → s.levelAt k = .mark) →
    (∀ k, b ≤ k + 1 → k + 1 < b + n → s.levelAt k = .nonMark) →
    (1 ≤ n → n ≤ spaceRetain + 3 → s.noReset (b + spaceRetain + 4) →
      (∀ k, b + n ≤ k + 1 → k < b + spaceRetain + 4 → s.levelAt k = .mark) →
      ∃ j t, j ≤ b + spaceRetain + 4 ∧ run j s = .next t ∧ t.stepReg = 15 ∧ t.result = .rejTimeout ∧
        t.rejectValid = true ∧ t.raw = s.raw ∧ t.address = s.address ∧ t.data = s.data) ∧
    (spaceRetain + 4 ≤ n → n ≤ spaceRetain + 3 + bitWait → s.noReset (b + n) → s.levelAt (b + n - 1) = .mark →
      ∃ t, run (b + n) s = .next t ∧ t.stepReg = 7 ∧ t.armed = false ∧
        t.raw = s.raw ||| (1#32 <<< s.idx.toNat) ∧ t.idx = s.idx - 1) ∧
    (spaceRetain + bitWait + 4 ≤ n → n ≤ spaceRetain + bitWait + zeroRetain + 5 → s.noReset (b + n + 1) →
      s.levelAt (b + n - 1) = .mark → s.levelAt (b + n) = .mark →
      ∃ j t, j ≤ b + n + 1 ∧ run j s = .next t ∧ t.stepReg = 15 ∧ t.result = .rejTimeout ∧
        t.rejectValid = true ∧ t.raw = s.raw ∧ t.address = s.address ∧ t.data = s.data) ∧
    (spaceRetain + bitWait + zeroRetain + 6 ≤ n → n ≤ spaceRetain + 2 * bitWait + zeroRetain + 5 →
      s.noReset (b + n) → s.levelAt (b + n - 1) = .mark →
      ∃ t, run (b + n) s = .next t ∧ t.stepReg = 7 ∧ t.armed = false ∧ t.raw = s.raw ∧ t.idx = s.idx - 1) ∧
    (spaceRetain + 2 * bitWait + zeroRetain + 6 ≤ n →
      s.noReset (b + spaceRetain + 2 * bitWait + zeroRetain + 5) →
      ∃ t, run (b + spaceRetain + 2 * bitWait + zeroRetain + 5) s = .next t ∧ t.stepReg = 15 ∧
        t.result = .rejTimeout ∧ t.rejectValid = true ∧ t.raw = s.raw ∧ t.address = s.address ∧ t.data = s.data)

/-- 30_encoding.md R84 (its last row), 44_frame_decode.md R188: the closing burst, with all 32 bits in, from the tick
after its first sample: after `S + 1` ticks of NonMark or more (201 with the defaults) CHECK decides on the word,
whatever the frame deadline; a Mark before that rejects the attempt with REJ_TIMEOUT. -/
def Obligations.ClosingBurstLeadsToTheCheck : Prop :=
  ∀ (s : State) (b n burstRetain burstWait spaceRetain : Nat),
    burstRetain = s.config.params.tBurstMarkRetain → burstWait = s.config.params.tBurstSpaceWait →
    spaceRetain = s.config.params.tBurstSpaceRetain →
    s.stepReg = 7 → s.armed = false → s.idx = 63 →
    burstRetain + 3 ≤ b → b ≤ burstRetain + 2 + burstWait →
    (∀ k, k + 1 < b → s.levelAt k = .mark) →
    (∀ k, b ≤ k + 1 → k + 1 < b + n → s.levelAt k = .nonMark) →
    (spaceRetain + 1 ≤ n → s.noReset (b + spaceRetain + 3) →
      ∃ t u, run (b + spaceRetain + 2) s = .next t ∧ t.stepReg = 14 ∧ step t = .next u ∧ u.stepReg = 15 ∧
        (frameOk s.raw = true → u.result = .accepted ∧ u.frameValid = true ∧
          u.address = addressField s.raw ∧ u.data = dataField s.raw) ∧
        (frameOk s.raw = false → u.result = .rejIntegrity ∧ u.rejectValid = true ∧
          u.address = s.address ∧ u.data = s.data)) ∧
    (1 ≤ n → n ≤ spaceRetain → s.noReset (b + n) → s.levelAt (b + n - 1) = .mark →
      ∃ t, run (b + n) s = .next t ∧ t.stepReg = 15 ∧ t.result = .rejTimeout ∧ t.rejectValid = true ∧
        t.raw = s.raw ∧ t.address = s.address ∧ t.data = s.data)

/-! ## The whole machine -/

/-- 00_scope.md R16, 42_wait_and_retain.md R147: every tick of every state has a next state: no trap, no hang, no
undefined result, whatever the registers hold (93_implementation_defined.md U6). -/
def Obligations.EveryTickHasANextState : Prop :=
  ∀ s : State, ∃ t : State, step s = .next t

/-- 30_encoding.md R88: a tick with `rst` 0 stays in its step or goes to a successor the step table gives that
step; a tick that changes the step clears `armed` (10_state.md R23). -/
def Obligations.OnlyTheTablesTransitions : Prop :=
  ∀ s t : State, s.pins.rst = false → step s = .next t →
    (t.stepReg = s.stepReg ∨ decode t.stepReg ∈ s.row.targets) ∧
    (t.stepReg ≠ s.stepReg → t.armed = false) ∧
    (s.row.kind = .ctrl → decode t.stepReg ∈ s.row.targets ∧ t.armed = false)

/-- 10_state.md R20, column "written by" (R24 to R31): at a tick with `rst` 0 a register changes only where one of
its writers says so; `now` counts. -/
def Obligations.RegistersChangeOnlyByTheirWriters : Prop :=
  ∀ s t : State, s.pins.rst = false → step s = .next t →
    t.config = s.config ∧ t.now = s.now + 1 ∧ t.waveform = s.waveform.tail ∧ t.ticks = s.ticks + 1 ∧
    (t.wt ≠ s.wt → s.armed = false ∧ s.row.kind ≠ .ctrl ∧
      t.wt = ⟨s.now, BitVec.ofNat 32 s.row.window⟩) ∧
    (t.ft ≠ s.ft → s.stepReg = 5 ∧ t.ft = ⟨s.now, BitVec.ofNat 32 s.config.params.tFrame⟩) ∧
    (t.raw ≠ s.raw → (s.stepReg = 5 ∧ t.raw = 0) ∨
      (s.stepReg = 11 ∧ t.stepReg = 7 ∧ t.raw = s.raw ||| (1#32 <<< (s.idx.toNat % 32)))) ∧
    (t.idx ≠ s.idx → (s.stepReg = 5 ∧ t.idx = 31) ∨
      (s.stepReg = 11 ∧ t.stepReg ≠ 11 ∧ t.idx = s.idx - 1)) ∧
    (t.address ≠ s.address ∨ t.data ≠ s.data → s.stepReg = 14 ∧ frameOk s.raw = true) ∧
    (t.result ≠ s.result → s.stepReg ≠ 15 ∧ t.stepReg = 15)

/-- 10_state.md R32: whatever the pulse registers held, after a tick with `rst` 0 each of the four is 1 exactly
when its event happened at that tick; `frame_valid` and `reject_valid` are never 1 together. -/
def Obligations.PulsesMarkTheirEvents : Prop :=
  ∀ s t : State, s.pins.rst = false → step s = .next t →
    (t.frameValid = true ↔ s.stepReg = 14 ∧ frameOk s.raw = true) ∧
    (t.rejectValid = true ↔ s.stepReg ≠ 15 ∧ t.stepReg = 15 ∧ t.result ≠ .accepted) ∧
    (t.dbgPollTick = true ↔ s.armed = false ∧ (s.row.kind = .wait .mark ∨ s.row.kind = .wait .nonMark)) ∧
    (t.dbgBitTick = true ↔ s.stepReg = 11 ∧ t.stepReg ≠ 11) ∧
    ¬ (t.frameValid = true ∧ t.rejectValid = true)

/-- 20_memory.md R61, R63 and 40_level_sampler.md R114: two samples of the same level give the same next state;
and at the tick of a CTRL step, of DONE, and at a RETAIN poll tick whose window has expired any two samples do. -/
def Obligations.OnlyTheLevelOfTheSampleMatters : Prop :=
  ∀ (s : State) (rst : Bool) (a b : Reading) (later : List PinInput),
    levelOf s.config (readingOf s.config a) = levelOf s.config (readingOf s.config b) ∨
      s.row.kind = .ctrl ∨ s.row.kind = .pause ∨
      (s.armed = true ∧ expired s.now s.wt = true ∧ ∃ l, s.row.kind = .retain l) →
    step { s with waveform := ⟨rst, a⟩ :: later } = step { s with waveform := ⟨rst, b⟩ :: later }

/-- 10_state.md R24: "No rule's outcome depends on the absolute value of `now`, only on differences": a tick with
`rst` 0 commutes with moving `now` and the starts of both timers by any amount, modulo 2^32. -/
def Obligations.AbsoluteTimeDoesNotMatter : Prop :=
  ∀ (s t : State) (d : Word), s.pins.rst = false → step s = .next t →
    step (shiftTime d s) = .next (shiftTime d t)

/-- 45_integrity_and_frame_loop.md R219 and 93_implementation_defined.md U15: states that differ only in `WT`
while no window is running, and in `FT`, `raw` and `idx` outside a decode attempt, stay so and show the same
outputs: what an earlier round left there plays no part in a later one. -/
def Obligations.StaleRegistersAreNeverRead : Prop :=
  ∀ s t s' : State, SameLive s t → step s = .next s' →
    ∃ t', step t = .next t' ∧ SameLive s' t' ∧ s'.outputs = t'.outputs

/-- The invariant of the block (`Inv`, Sys2Proof/Safety.lean) holds at reset and after any tick with `rst` 1. -/
def Obligations.InvariantHoldsAfterReset : Prop :=
  Inv State.reset ∧
  ∀ s t : State, s.pins.rst = true → step s = .next t → Inv t

/-- The invariant of the block is kept by every tick: 10_state.md R25, R26, R28, R31, R32;
41_deadline_timer.md R125; 42_wait_and_retain.md R140; 44_frame_decode.md R185, R186, R190, R191;
45_integrity_and_frame_loop.md R212, R214, R216. In it stand the legal values of `idx`, the zero bits of `raw` not
yet classified, `idx = 63` at CHECK, the window in `WT` never passed, the events of all four pulse registers, and two
bounds on `elapsed(FT)`: that of the windows (R190, R191), and that of the deadline, which is not R191's but the
model's own correction of it (DEDUCED, notes/assumptions/13.md). -/
def Obligations.InvariantIsKeptByEveryTick : Prop :=
  ∀ s t : State, Inv s → step s = .next t → Inv t

/-- 41_deadline_timer.md R125 and 44_frame_decode.md R190: under the invariant, where BIT_HEAD reads the frame
timer it holds the frame deadline and has run at most `E_max` ticks; and with the default windows REJ_DEADLINE is
raised only after at least 27 bits were classified 0, so only for a word that would fail the integrity check
whatever bits were still to come. -/
def Obligations.DeadlineNeedsTwentySevenZeros : Prop :=
  ∀ s : State, Inv s → s.stepReg = 10 → s.idx.toNat ≤ 31 →
    s.ft.dur.toNat = s.config.params.tFrame ∧
    (elapsed s.now s.ft).toNat ≤ s.config.params.eMax ∧
    (∀ t : State, s.config.params = Params.withDefaults s.config.params.lowThreshold →
      exec .bitHead s = .next t → t.result = .rejDeadline → t.rejectValid = true →
      27 ≤ s.zeros ∧
      ∀ final : Word, (∀ j, s.idx.toNat < j → j < 32 → final.getLsbD j = s.raw.getLsbD j) →
        frameOk final = false)

/-- 45_integrity_and_frame_loop.md R220: from IDLE, as long as no sample is NonMark (constant Indeterminate,
constant Mark, or any mixture), `step` alternates 0, 1, 0, 1, no event is reported, and no decode attempt
starts. -/
def Obligations.NoSignalNeverReachesDecoding : Prop :=
  ∀ (s : State) (n : Nat), s.stepReg = 0 → s.noReset n → (∀ k, k < n → s.levelAt k ≠ .nonMark) →
    ∃ t, run n s = .next t ∧ t.stepReg = (if n % 2 = 0 then 0 else 1) ∧
      t.result = s.result ∧ t.address = s.address ∧ t.data = s.data ∧ t.ft = s.ft ∧ t.raw = s.raw ∧
      t.idx = s.idx ∧
      (1 ≤ n → t.armed = false ∧ t.frameValid = false ∧ t.rejectValid = false ∧ t.dbgBitTick = false ∧
        (t.dbgPollTick = true ↔ n % 2 = 0))

/-- 45_integrity_and_frame_loop.md R218 (and 44_frame_decode.md R191): with the default windows, from any state
that meets the invariant and whatever the input, the block is in IDLE again within 75,364 ticks; a decode attempt
under way is over within 59,957 ticks of its DEC_INIT. -/
def Obligations.EveryRoundEnds : Prop :=
  ∀ s : State, Inv s → s.config.params = Params.withDefaults s.config.params.lowThreshold →
    (s.noReset 75364 → ∃ n t, 1 ≤ n ∧ n ≤ 75364 ∧ run n s = .next t ∧ t.stepReg = 0) ∧
    (s.decoding → (elapsed s.now s.ft).toNat ≤ 59957)

/-! ## Ports and notation -/

/-- 10_state.md R21, 45_integrity_and_frame_loop.md R216, 30_encoding.md R89, R90: the output ports. The numbers
of the codes are the spec's own choice (D14, notes/assumptions/12.md). -/
def Obligations.OutputPortsShowTheRegisters : Prop :=
  ∀ s : State,
    s.outputs.frameValid = s.frameValid ∧ s.outputs.rejectValid = s.rejectValid ∧
    s.outputs.address = s.address ∧ s.outputs.data = s.data ∧
    s.outputs.dbgPollTick = s.dbgPollTick ∧ s.outputs.dbgBitTick = s.dbgBitTick ∧
    s.outputs.result =
      (match s.result with | .none => 0 | .accepted => 1 | .rejTimeout => 2 | .rejIntegrity => 3 | .rejDeadline => 4) ∧
    s.outputs.phase =
      (match decode s.stepReg with
      | .idle => 0
      | .lbWaitMark | .lbRetMark | .lbWaitSpace | .lbRetSpace => 1
      | .decInit | .fbWaitMark | .brRetMark | .brWaitSpace | .brRetSpace | .bitHead | .bitWaitMark | .zRetSpace
      | .zWaitMark | .check => 2
      | .done => if s.result = .accepted then 3 else 4)

/-- 30_encoding.md R94: the readings of the waveform segments `M`, `N` and `X` are Mark, NonMark and
Indeterminate under every legal configuration, and a segment lasts its number of ticks with `rst` 0. The notation
is the spec's own choice (D15, notes/assumptions/12.md). -/
def Obligations.WaveformSegmentsHaveTheirLevels : Prop :=
  ∀ (c : Config) (n : Nat) (p : PinInput),
    (p ∈ (Segment.mark n).expand c.params →
      p.rst = false ∧ levelOf c (readingOf c p.adcIn) = .mark) ∧
    (p ∈ (Segment.nonMark n).expand c.params →
      p.rst = false ∧ levelOf c (readingOf c p.adcIn) = .nonMark) ∧
    (p ∈ (Segment.indeterminate n).expand c.params →
      p.rst = false ∧ levelOf c (readingOf c p.adcIn) = .indeterminate) ∧
    ((Segment.mark n).expand c.params).length = n ∧ ((Segment.nonMark n).expand c.params).length = n ∧
    ((Segment.indeterminate n).expand c.params).length = n
end

