-- ==== Sys2Proof/Laws/Count.lean ====
section
/-! SUPPORT. Counting the bits of `raw` and the classifications (44_frame_decode.md R185, R186). -/

namespace Sys2Proof.Machine

/-- The single bit that `raw <- raw | (1 << i)` adds. -/
theorem getLsbD_setBit (w : Word) (i j : Nat) (hi : i < 32) :
    (w ||| (1#32 <<< i)).getLsbD j = (w.getLsbD j || decide (j = i)) := by
  rw [BitVec.getLsbD_or]
  congr 1
  rw [BitVec.getLsbD_shiftLeft, BitVec.getLsbD_one]
  by_cases h : j = i
  · subst h; simp [hi]
  · by_cases h' : j < i
    · simp [h, h']
    · simp [h]; omega

/-- Setting a bit that is 0 adds one to the count of ones. -/
theorem onesIn_setBit (w : Word) (i : Nat) (hi : i < 32) (h0 : w.getLsbD i = false) :
    onesIn (w ||| (1#32 <<< i)) = onesIn w + 1 := by
  have key : ∀ l : List Nat, l.Nodup → i ∈ l →
      l.countP (fun j => (w ||| (1#32 <<< i)).getLsbD j) = l.countP (fun j => w.getLsbD j) + 1 := by
    intro l
    induction l with
    | nil => simp
    | cons a l ih =>
      intro hn hm
      obtain ⟨ha, hl⟩ := List.nodup_cons.mp hn
      by_cases hai : a = i
      · subst hai
        have same : l.countP (fun j => (w ||| (1#32 <<< a)).getLsbD j) = l.countP (fun j => w.getLsbD j) := by
          apply List.countP_congr
          intro j hj
          have : j ≠ a := fun e => ha (e ▸ hj)
          simp only [getLsbD_setBit w a j hi]
          simp [this]
        simp only [List.countP_cons, same, getLsbD_setBit w a a hi, h0]
        simp
      · have hil : i ∈ l := by
          rcases List.mem_cons.mp hm with h | h
          · exact absurd h.symm hai
          · exact h
        simp only [List.countP_cons, ih hl hil, getLsbD_setBit w i a hi]
        simp [hai]
        omega
  exact key (List.range 32) List.nodup_range (List.mem_range.mpr hi)

/-- Where the bits up to `i` are 0 there are at most `31 − i` ones. -/
theorem onesIn_le (w : Word) (i : Nat) (hi : i ≤ 31) (h : ∀ j, j ≤ i → w.getLsbD j = false) :
    onesIn w ≤ 31 - i := by
  have split : List.range 32 = List.range (i + 1) ++ List.range' (i + 1) (31 - i) := by
    have h32 : i + 1 + (31 - i) = 32 := by omega
    have := List.range'_append_1 (s := 0) (m := i + 1) (n := 31 - i)
    rw [h32, Nat.zero_add] at this
    rw [List.range_eq_range', List.range_eq_range', this]
  unfold onesIn
  rw [split, List.countP_append]
  have low : (List.range (i + 1)).countP (fun j => w.getLsbD j) = 0 := by
    rw [List.countP_eq_zero]
    intro j hj
    have := h j (by have := List.mem_range.mp hj; omega)
    simp [this]
  have high : (List.range' (i + 1) (31 - i)).countP (fun j => w.getLsbD j) ≤ 31 - i := by
    have := List.countP_le_length (p := fun j => w.getLsbD j) (l := List.range' (i + 1) (31 - i))
    simpa using this
  omega

theorem onesIn_le_32 (w : Word) : onesIn w ≤ 32 := by
  have := List.countP_le_length (p := fun j => w.getLsbD j) (l := List.range 32)
  simpa [onesIn] using this

@[simp] theorem onesIn_zero : onesIn 0 = 0 := by decide

@[simp] theorem bitsClassified_31 : bitsClassified 31 = 0 := by decide
@[simp] theorem bitsClassified_63 : bitsClassified 63 = 32 := by decide

/-- While bits remain, `31 − idx` were classified (44_frame_decode.md R185). -/
theorem bitsClassified_of_le {idx : BitVec 6} (h : idx.toNat ≤ 31) : bitsClassified idx = 31 - idx.toNat := by
  unfold bitsClassified
  rw [BitVec.toNat_sub]
  simp
  omega

/-- A classification counts one more (44_frame_decode.md R186). -/
theorem bitsClassified_pred {idx : BitVec 6} (h : idx.toNat ≤ 31) :
    bitsClassified (idx - 1) = bitsClassified idx + 1 := by
  unfold bitsClassified
  rw [BitVec.toNat_sub, BitVec.toNat_sub, BitVec.toNat_sub]
  simp
  omega

/-- `idx` after a classification is 0 to 30, or 63 (44_frame_decode.md R186). -/
theorem idx_pred_range {idx : BitVec 6} (h : idx.toNat ≤ 31) :
    (idx - 1).toNat < idx.toNat ∨ idx - 1 = 63 := by
  by_cases h0 : idx = 0
  · subst h0; exact .inr (by decide)
  · left
    have : idx.toNat ≠ 0 := fun e => h0 (by apply BitVec.eq_of_toNat_eq; simpa using e)
    rw [BitVec.toNat_sub]
    simp
    omega

end Sys2Proof.Machine
end

