-- ==== Sys2Proof/Laws/Legal.lean ====
section
/-! SUPPORT. What a legal configuration gives the proofs (00_scope.md R8, R9): the bounds of each parameter. -/

namespace Sys2Proof

theorem Config.adcBits_range (c : Config) : 2 ≤ c.params.adcBits ∧ c.params.adcBits ≤ 16 := by
  have h := c.legal
  simp only [Params.legal, Bool.and_eq_true] at h
  simpa [Params.adcBitsLegal] using h.1.1.1

theorem Config.threshold_range (c : Config) :
    1 ≤ c.params.lowThreshold ∧ c.params.lowThreshold ≤ c.params.fullScale / 2 := by
  have h := c.legal
  simp only [Params.legal, Bool.and_eq_true] at h
  simpa [Params.thresholdLegal] using h.1.1.2

theorem Config.eMax_lt (c : Config) : c.params.eMax < 2 ^ 32 := by
  have h := c.legal
  simp only [Params.legal, Bool.and_eq_true] at h
  simpa [Params.frameTimerLegal] using h.2

theorem Config.duration_range (c : Config) {d : Nat} (hd : d ∈ c.params.durations) : 1 ≤ d ∧ d < 2 ^ 31 := by
  have h := c.legal
  simp only [Params.legal, Bool.and_eq_true] at h
  have h' := List.all_eq_true.mp h.1.2 d hd
  simp at h'
  omega

end Sys2Proof
end

