-- ==== Sys2Proof/Laws/State.lean ====
section
/-! SUPPORT. What each shared state update does to each field of State: one lemma per field per update, so that
no proof unfolds a record update. -/

namespace Sys2Proof.Machine

variable (s : State)

/-! ### goto -/

@[simp] theorem goto_config (i : Instr) : (goto i s).config = s.config := rfl
@[simp] theorem goto_waveform (i : Instr) : (goto i s).waveform = s.waveform := rfl
@[simp] theorem goto_ticks (i : Instr) : (goto i s).ticks = s.ticks := rfl
@[simp] theorem goto_stepReg (i : Instr) : (goto i s).stepReg = encode i := rfl
@[simp] theorem goto_armed (i : Instr) : (goto i s).armed = false := rfl
@[simp] theorem goto_now (i : Instr) : (goto i s).now = s.now := rfl
@[simp] theorem goto_wt (i : Instr) : (goto i s).wt = s.wt := rfl
@[simp] theorem goto_ft (i : Instr) : (goto i s).ft = s.ft := rfl
@[simp] theorem goto_raw (i : Instr) : (goto i s).raw = s.raw := rfl
@[simp] theorem goto_idx (i : Instr) : (goto i s).idx = s.idx := rfl
@[simp] theorem goto_address (i : Instr) : (goto i s).address = s.address := rfl
@[simp] theorem goto_data (i : Instr) : (goto i s).data = s.data := rfl
@[simp] theorem goto_result (i : Instr) : (goto i s).result = s.result := rfl
@[simp] theorem goto_frameValid (i : Instr) : (goto i s).frameValid = s.frameValid := rfl
@[simp] theorem goto_rejectValid (i : Instr) : (goto i s).rejectValid = s.rejectValid := rfl
@[simp] theorem goto_dbgPollTick (i : Instr) : (goto i s).dbgPollTick = s.dbgPollTick := rfl
@[simp] theorem goto_dbgBitTick (i : Instr) : (goto i s).dbgBitTick = s.dbgBitTick := rfl

/-! ### startWT -/

@[simp] theorem startWT_config (w : Nat) : (startWT w s).config = s.config := rfl
@[simp] theorem startWT_waveform (w : Nat) : (startWT w s).waveform = s.waveform := rfl
@[simp] theorem startWT_ticks (w : Nat) : (startWT w s).ticks = s.ticks := rfl
@[simp] theorem startWT_stepReg (w : Nat) : (startWT w s).stepReg = s.stepReg := rfl
@[simp] theorem startWT_armed (w : Nat) : (startWT w s).armed = s.armed := rfl
@[simp] theorem startWT_now (w : Nat) : (startWT w s).now = s.now := rfl
@[simp] theorem startWT_wt (w : Nat) : (startWT w s).wt = ⟨s.now, BitVec.ofNat 32 w⟩ := rfl
@[simp] theorem startWT_ft (w : Nat) : (startWT w s).ft = s.ft := rfl
@[simp] theorem startWT_raw (w : Nat) : (startWT w s).raw = s.raw := rfl
@[simp] theorem startWT_idx (w : Nat) : (startWT w s).idx = s.idx := rfl
@[simp] theorem startWT_address (w : Nat) : (startWT w s).address = s.address := rfl
@[simp] theorem startWT_data (w : Nat) : (startWT w s).data = s.data := rfl
@[simp] theorem startWT_result (w : Nat) : (startWT w s).result = s.result := rfl
@[simp] theorem startWT_frameValid (w : Nat) : (startWT w s).frameValid = s.frameValid := rfl
@[simp] theorem startWT_rejectValid (w : Nat) : (startWT w s).rejectValid = s.rejectValid := rfl
@[simp] theorem startWT_dbgPollTick (w : Nat) : (startWT w s).dbgPollTick = s.dbgPollTick := rfl
@[simp] theorem startWT_dbgBitTick (w : Nat) : (startWT w s).dbgBitTick = s.dbgBitTick := rfl

/-! ### startFT -/

@[simp] theorem startFT_config (w : Nat) : (startFT w s).config = s.config := rfl
@[simp] theorem startFT_waveform (w : Nat) : (startFT w s).waveform = s.waveform := rfl
@[simp] theorem startFT_ticks (w : Nat) : (startFT w s).ticks = s.ticks := rfl
@[simp] theorem startFT_stepReg (w : Nat) : (startFT w s).stepReg = s.stepReg := rfl
@[simp] theorem startFT_armed (w : Nat) : (startFT w s).armed = s.armed := rfl
@[simp] theorem startFT_now (w : Nat) : (startFT w s).now = s.now := rfl
@[simp] theorem startFT_wt (w : Nat) : (startFT w s).wt = s.wt := rfl
@[simp] theorem startFT_ft (w : Nat) : (startFT w s).ft = ⟨s.now, BitVec.ofNat 32 w⟩ := rfl
@[simp] theorem startFT_raw (w : Nat) : (startFT w s).raw = s.raw := rfl
@[simp] theorem startFT_idx (w : Nat) : (startFT w s).idx = s.idx := rfl
@[simp] theorem startFT_address (w : Nat) : (startFT w s).address = s.address := rfl
@[simp] theorem startFT_data (w : Nat) : (startFT w s).data = s.data := rfl
@[simp] theorem startFT_result (w : Nat) : (startFT w s).result = s.result := rfl
@[simp] theorem startFT_frameValid (w : Nat) : (startFT w s).frameValid = s.frameValid := rfl
@[simp] theorem startFT_rejectValid (w : Nat) : (startFT w s).rejectValid = s.rejectValid := rfl
@[simp] theorem startFT_dbgPollTick (w : Nat) : (startFT w s).dbgPollTick = s.dbgPollTick := rfl
@[simp] theorem startFT_dbgBitTick (w : Nat) : (startFT w s).dbgBitTick = s.dbgBitTick := rfl

/-! ### arm -/

@[simp] theorem arm_config : (arm s).config = s.config := rfl
@[simp] theorem arm_waveform : (arm s).waveform = s.waveform := rfl
@[simp] theorem arm_ticks : (arm s).ticks = s.ticks := rfl
@[simp] theorem arm_stepReg : (arm s).stepReg = s.stepReg := rfl
@[simp] theorem arm_armed : (arm s).armed = true := rfl
@[simp] theorem arm_now : (arm s).now = s.now := rfl
@[simp] theorem arm_wt : (arm s).wt = s.wt := rfl
@[simp] theorem arm_ft : (arm s).ft = s.ft := rfl
@[simp] theorem arm_raw : (arm s).raw = s.raw := rfl
@[simp] theorem arm_idx : (arm s).idx = s.idx := rfl
@[simp] theorem arm_address : (arm s).address = s.address := rfl
@[simp] theorem arm_data : (arm s).data = s.data := rfl
@[simp] theorem arm_result : (arm s).result = s.result := rfl
@[simp] theorem arm_frameValid : (arm s).frameValid = s.frameValid := rfl
@[simp] theorem arm_rejectValid : (arm s).rejectValid = s.rejectValid := rfl
@[simp] theorem arm_dbgPollTick : (arm s).dbgPollTick = s.dbgPollTick := rfl
@[simp] theorem arm_dbgBitTick : (arm s).dbgBitTick = s.dbgBitTick := rfl

/-! ### emitPollTick -/

@[simp] theorem emitPollTick_config : (emitPollTick s).config = s.config := rfl
@[simp] theorem emitPollTick_waveform : (emitPollTick s).waveform = s.waveform := rfl
@[simp] theorem emitPollTick_ticks : (emitPollTick s).ticks = s.ticks := rfl
@[simp] theorem emitPollTick_stepReg : (emitPollTick s).stepReg = s.stepReg := rfl
@[simp] theorem emitPollTick_armed : (emitPollTick s).armed = s.armed := rfl
@[simp] theorem emitPollTick_now : (emitPollTick s).now = s.now := rfl
@[simp] theorem emitPollTick_wt : (emitPollTick s).wt = s.wt := rfl
@[simp] theorem emitPollTick_ft : (emitPollTick s).ft = s.ft := rfl
@[simp] theorem emitPollTick_raw : (emitPollTick s).raw = s.raw := rfl
@[simp] theorem emitPollTick_idx : (emitPollTick s).idx = s.idx := rfl
@[simp] theorem emitPollTick_address : (emitPollTick s).address = s.address := rfl
@[simp] theorem emitPollTick_data : (emitPollTick s).data = s.data := rfl
@[simp] theorem emitPollTick_result : (emitPollTick s).result = s.result := rfl
@[simp] theorem emitPollTick_frameValid : (emitPollTick s).frameValid = s.frameValid := rfl
@[simp] theorem emitPollTick_rejectValid : (emitPollTick s).rejectValid = s.rejectValid := rfl
@[simp] theorem emitPollTick_dbgPollTick : (emitPollTick s).dbgPollTick = true := rfl
@[simp] theorem emitPollTick_dbgBitTick : (emitPollTick s).dbgBitTick = s.dbgBitTick := rfl

/-! ### raise -/

@[simp] theorem raise_config (f : Failure) : (raise f s).config = s.config := rfl
@[simp] theorem raise_waveform (f : Failure) : (raise f s).waveform = s.waveform := rfl
@[simp] theorem raise_ticks (f : Failure) : (raise f s).ticks = s.ticks := rfl
@[simp] theorem raise_stepReg (f : Failure) : (raise f s).stepReg = encode .done := rfl
@[simp] theorem raise_armed (f : Failure) : (raise f s).armed = false := rfl
@[simp] theorem raise_now (f : Failure) : (raise f s).now = s.now := rfl
@[simp] theorem raise_wt (f : Failure) : (raise f s).wt = s.wt := rfl
@[simp] theorem raise_ft (f : Failure) : (raise f s).ft = s.ft := rfl
@[simp] theorem raise_raw (f : Failure) : (raise f s).raw = s.raw := rfl
@[simp] theorem raise_idx (f : Failure) : (raise f s).idx = s.idx := rfl
@[simp] theorem raise_address (f : Failure) : (raise f s).address = s.address := rfl
@[simp] theorem raise_data (f : Failure) : (raise f s).data = s.data := rfl
@[simp] theorem raise_result (f : Failure) : (raise f s).result = f.result := rfl
@[simp] theorem raise_frameValid (f : Failure) : (raise f s).frameValid = s.frameValid := rfl
@[simp] theorem raise_rejectValid (f : Failure) : (raise f s).rejectValid = true := rfl
@[simp] theorem raise_dbgPollTick (f : Failure) : (raise f s).dbgPollTick = s.dbgPollTick := rfl
@[simp] theorem raise_dbgBitTick (f : Failure) : (raise f s).dbgBitTick = s.dbgBitTick := rfl

/-! ### setRawBit -/

@[simp] theorem setRawBit_config : (setRawBit s).config = s.config := rfl
@[simp] theorem setRawBit_waveform : (setRawBit s).waveform = s.waveform := rfl
@[simp] theorem setRawBit_ticks : (setRawBit s).ticks = s.ticks := rfl
@[simp] theorem setRawBit_stepReg : (setRawBit s).stepReg = s.stepReg := rfl
@[simp] theorem setRawBit_armed : (setRawBit s).armed = s.armed := rfl
@[simp] theorem setRawBit_now : (setRawBit s).now = s.now := rfl
@[simp] theorem setRawBit_wt : (setRawBit s).wt = s.wt := rfl
@[simp] theorem setRawBit_ft : (setRawBit s).ft = s.ft := rfl
@[simp] theorem setRawBit_raw : (setRawBit s).raw = s.raw ||| (1#32 <<< (s.idx.extractLsb' 0 5).toNat) := rfl
@[simp] theorem setRawBit_idx : (setRawBit s).idx = s.idx := rfl
@[simp] theorem setRawBit_address : (setRawBit s).address = s.address := rfl
@[simp] theorem setRawBit_data : (setRawBit s).data = s.data := rfl
@[simp] theorem setRawBit_result : (setRawBit s).result = s.result := rfl
@[simp] theorem setRawBit_frameValid : (setRawBit s).frameValid = s.frameValid := rfl
@[simp] theorem setRawBit_rejectValid : (setRawBit s).rejectValid = s.rejectValid := rfl
@[simp] theorem setRawBit_dbgPollTick : (setRawBit s).dbgPollTick = s.dbgPollTick := rfl
@[simp] theorem setRawBit_dbgBitTick : (setRawBit s).dbgBitTick = s.dbgBitTick := rfl

/-! ### countBit -/

@[simp] theorem countBit_config : (countBit s).config = s.config := rfl
@[simp] theorem countBit_waveform : (countBit s).waveform = s.waveform := rfl
@[simp] theorem countBit_ticks : (countBit s).ticks = s.ticks := rfl
@[simp] theorem countBit_stepReg : (countBit s).stepReg = s.stepReg := rfl
@[simp] theorem countBit_armed : (countBit s).armed = s.armed := rfl
@[simp] theorem countBit_now : (countBit s).now = s.now := rfl
@[simp] theorem countBit_wt : (countBit s).wt = s.wt := rfl
@[simp] theorem countBit_ft : (countBit s).ft = s.ft := rfl
@[simp] theorem countBit_raw : (countBit s).raw = s.raw := rfl
@[simp] theorem countBit_idx : (countBit s).idx = s.idx - 1 := rfl
@[simp] theorem countBit_address : (countBit s).address = s.address := rfl
@[simp] theorem countBit_data : (countBit s).data = s.data := rfl
@[simp] theorem countBit_result : (countBit s).result = s.result := rfl
@[simp] theorem countBit_frameValid : (countBit s).frameValid = s.frameValid := rfl
@[simp] theorem countBit_rejectValid : (countBit s).rejectValid = s.rejectValid := rfl
@[simp] theorem countBit_dbgPollTick : (countBit s).dbgPollTick = s.dbgPollTick := rfl
@[simp] theorem countBit_dbgBitTick : (countBit s).dbgBitTick = true := rfl

/-! ### accept -/

@[simp] theorem accept_config : (accept s).config = s.config := rfl
@[simp] theorem accept_waveform : (accept s).waveform = s.waveform := rfl
@[simp] theorem accept_ticks : (accept s).ticks = s.ticks := rfl
@[simp] theorem accept_stepReg : (accept s).stepReg = encode .done := rfl
@[simp] theorem accept_armed : (accept s).armed = false := rfl
@[simp] theorem accept_now : (accept s).now = s.now := rfl
@[simp] theorem accept_wt : (accept s).wt = s.wt := rfl
@[simp] theorem accept_ft : (accept s).ft = s.ft := rfl
@[simp] theorem accept_raw : (accept s).raw = s.raw := rfl
@[simp] theorem accept_idx : (accept s).idx = s.idx := rfl
@[simp] theorem accept_address : (accept s).address = addressField s.raw := rfl
@[simp] theorem accept_data : (accept s).data = dataField s.raw := rfl
@[simp] theorem accept_result : (accept s).result = .accepted := rfl
@[simp] theorem accept_frameValid : (accept s).frameValid = true := rfl
@[simp] theorem accept_rejectValid : (accept s).rejectValid = s.rejectValid := rfl
@[simp] theorem accept_dbgPollTick : (accept s).dbgPollTick = s.dbgPollTick := rfl
@[simp] theorem accept_dbgBitTick : (accept s).dbgBitTick = s.dbgBitTick := rfl

/-! ### beginTick -/

@[simp] theorem beginTick_config : (beginTick s).config = s.config := rfl
@[simp] theorem beginTick_waveform : (beginTick s).waveform = s.waveform := rfl
@[simp] theorem beginTick_ticks : (beginTick s).ticks = s.ticks := rfl
@[simp] theorem beginTick_stepReg : (beginTick s).stepReg = s.stepReg := rfl
@[simp] theorem beginTick_armed : (beginTick s).armed = s.armed := rfl
@[simp] theorem beginTick_now : (beginTick s).now = s.now := rfl
@[simp] theorem beginTick_wt : (beginTick s).wt = s.wt := rfl
@[simp] theorem beginTick_ft : (beginTick s).ft = s.ft := rfl
@[simp] theorem beginTick_raw : (beginTick s).raw = s.raw := rfl
@[simp] theorem beginTick_idx : (beginTick s).idx = s.idx := rfl
@[simp] theorem beginTick_address : (beginTick s).address = s.address := rfl
@[simp] theorem beginTick_data : (beginTick s).data = s.data := rfl
@[simp] theorem beginTick_result : (beginTick s).result = s.result := rfl
@[simp] theorem beginTick_frameValid : (beginTick s).frameValid = false := rfl
@[simp] theorem beginTick_rejectValid : (beginTick s).rejectValid = false := rfl
@[simp] theorem beginTick_dbgPollTick : (beginTick s).dbgPollTick = false := rfl
@[simp] theorem beginTick_dbgBitTick : (beginTick s).dbgBitTick = false := rfl

/-! ### endTick -/

@[simp] theorem endTick_config : (endTick s).config = s.config := rfl
@[simp] theorem endTick_waveform : (endTick s).waveform = s.waveform.tail := rfl
@[simp] theorem endTick_ticks : (endTick s).ticks = s.ticks + 1 := rfl
@[simp] theorem endTick_stepReg : (endTick s).stepReg = s.stepReg := rfl
@[simp] theorem endTick_armed : (endTick s).armed = s.armed := rfl
@[simp] theorem endTick_now : (endTick s).now = s.now + 1 := rfl
@[simp] theorem endTick_wt : (endTick s).wt = s.wt := rfl
@[simp] theorem endTick_ft : (endTick s).ft = s.ft := rfl
@[simp] theorem endTick_raw : (endTick s).raw = s.raw := rfl
@[simp] theorem endTick_idx : (endTick s).idx = s.idx := rfl
@[simp] theorem endTick_address : (endTick s).address = s.address := rfl
@[simp] theorem endTick_data : (endTick s).data = s.data := rfl
@[simp] theorem endTick_result : (endTick s).result = s.result := rfl
@[simp] theorem endTick_frameValid : (endTick s).frameValid = s.frameValid := rfl
@[simp] theorem endTick_rejectValid : (endTick s).rejectValid = s.rejectValid := rfl
@[simp] theorem endTick_dbgPollTick : (endTick s).dbgPollTick = s.dbgPollTick := rfl
@[simp] theorem endTick_dbgBitTick : (endTick s).dbgBitTick = s.dbgBitTick := rfl

/-! ### resetTick -/

@[simp] theorem resetTick_eq : resetTick s = State.resetOf s.config s.waveform.tail (s.ticks + 1) := rfl

end Sys2Proof.Machine
end

