-- ==== Sys2Proof/Laws/Ops.lean ====
section
/-! SUPPORT. One lemma per shared operation that says all it can do, and the meaning of each step as the
operation it is. -/

namespace Sys2Proof.Machine

/-- Everything a WAIT tick can do (42_wait_and_retain.md R140, R141). -/
theorem runWait_cases (l : DefiniteLevel) (w : Nat) (succeed fail : State → State) (s : State) :
    (s.armed = true ∧ s.level = l.level ∧ runWait l w succeed fail s = succeed s) ∨
    (s.armed = true ∧ s.level ≠ l.level ∧ expired s.now s.wt = true ∧ runWait l w succeed fail s = fail s) ∨
    (s.armed = true ∧ s.level ≠ l.level ∧ expired s.now s.wt = false ∧ runWait l w succeed fail s = s) ∨
    (s.armed = false ∧ s.level = l.opp.level ∧
      runWait l w succeed fail s = arm (emitPollTick (startWT w s))) ∨
    (s.armed = false ∧ s.level ≠ l.opp.level ∧
      runWait l w succeed fail s = fail (emitPollTick (startWT w s))) := by
  unfold runWait
  cases ha : s.armed with
  | true => by_cases hl : s.level = l.level <;> cases he : expired s.now s.wt <;> simp [hl]
  | false => by_cases ho : s.level = l.opp.level <;> simp [ho]

/-- Everything a RETAIN tick can do (42_wait_and_retain.md R143). -/
theorem runRetain_cases (l : DefiniteLevel) (w : Nat) (succeed fail : State → State) (s : State) :
    (s.armed = true ∧ expired s.now s.wt = true ∧ runRetain l w succeed fail s = succeed s) ∨
    (s.armed = true ∧ expired s.now s.wt = false ∧ s.level = l.opp.level ∧
      runRetain l w succeed fail s = fail s) ∨
    (s.armed = true ∧ expired s.now s.wt = false ∧ s.level ≠ l.opp.level ∧
      runRetain l w succeed fail s = s) ∨
    (s.armed = false ∧ s.level = l.opp.level ∧ runRetain l w succeed fail s = fail (startWT w s)) ∨
    (s.armed = false ∧ s.level ≠ l.opp.level ∧ runRetain l w succeed fail s = arm (startWT w s)) := by
  unfold runRetain
  cases ha : s.armed <;> by_cases ho : s.level = l.opp.level <;>
    cases he : expired s.now s.wt <;> simp [ho]

/-- Everything a PAUSE tick can do (42_wait_and_retain.md R145). -/
theorem runPause_cases (w : Nat) (succeed : State → State) (s : State) :
    (s.armed = true ∧ expired s.now s.wt = true ∧ runPause w succeed s = succeed s) ∨
    (s.armed = true ∧ expired s.now s.wt = false ∧ runPause w succeed s = s) ∨
    (s.armed = false ∧ runPause w succeed s = arm (startWT w s)) := by
  unfold runPause
  cases ha : s.armed <;> cases he : expired s.now s.wt <;> simp

/-- `idx[4:0]` as a bit number is `idx` modulo 32. -/
theorem extractLsb'_idx (idx : BitVec 6) : (idx.extractLsb' 0 5).toNat = idx.toNat % 32 := by
  simp [BitVec.extractLsb'_toNat]

/-! The next state each step computes. -/

theorem exec_idle (s : State) : exec .idle s = .next (goto .lbWaitMark s) := rfl
theorem exec_lbWaitMark (s : State) :
    exec .lbWaitMark s =
      .next (runWait .mark s.config.params.tLeadMarkWait (goto .lbRetMark) (goto .idle) s) := rfl
theorem exec_lbRetMark (s : State) :
    exec .lbRetMark s =
      .next (runRetain .mark s.config.params.tLeadMarkRetain (goto .lbWaitSpace) (goto .idle) s) := rfl
theorem exec_lbWaitSpace (s : State) :
    exec .lbWaitSpace s =
      .next (runWait .nonMark s.config.params.tLeadSpaceWait (goto .lbRetSpace) (goto .idle) s) := rfl
theorem exec_lbRetSpace (s : State) :
    exec .lbRetSpace s =
      .next (runRetain .nonMark s.config.params.tLeadSpaceRetain (goto .decInit) (goto .idle) s) := rfl
theorem exec_decInit (s : State) :
    exec .decInit s =
      .next (goto .fbWaitMark { startFT s.config.params.tFrame s with raw := 0, idx := 31 }) := rfl
theorem exec_fbWaitMark (s : State) :
    exec .fbWaitMark s =
      .next (runWait .mark s.config.params.tFirstMarkWait (goto .brRetMark) (raise .timeout) s) := rfl
theorem exec_brRetMark (s : State) :
    exec .brRetMark s =
      .next (runRetain .mark s.config.params.tBurstMarkRetain (goto .brWaitSpace) (raise .timeout) s) := rfl
theorem exec_brWaitSpace (s : State) :
    exec .brWaitSpace s =
      .next (runWait .nonMark s.config.params.tBurstSpaceWait (goto .brRetSpace) (raise .timeout) s) := rfl
theorem exec_brRetSpace (s : State) :
    exec .brRetSpace s =
      .next (runRetain .nonMark s.config.params.tBurstSpaceRetain (goto .bitHead) (raise .timeout) s) := rfl
theorem exec_bitHead (s : State) :
    exec .bitHead s =
      .next (if allBitsAssembled s.idx then goto .check s
        else if expired s.now s.ft then raise .deadlineExhaustion s else goto .bitWaitMark s) := rfl
theorem exec_bitWaitMark (s : State) :
    exec .bitWaitMark s =
      .next (runWait .mark s.config.params.tBitMarkWait classifyOne classifyZero s) := rfl
theorem exec_zRetSpace (s : State) :
    exec .zRetSpace s =
      .next (runRetain .nonMark s.config.params.tZeroSpaceRetain (goto .zWaitMark) (raise .timeout) s) := rfl
theorem exec_zWaitMark (s : State) :
    exec .zWaitMark s =
      .next (runWait .mark s.config.params.tBitMarkWait (goto .brRetMark) (raise .timeout) s) := rfl
theorem exec_check (s : State) :
    exec .check s = .next (if frameOk s.raw then accept s else raise .integrity s) := rfl
theorem exec_done (s : State) :
    exec .done s = .next (runPause s.config.params.tPause returnToIdle s) := rfl

end Sys2Proof.Machine
end

