-- ==== Sys2Proof/Laws/PerInstr.lean ====
section
/-! SUPPORT. Facts about every step as syntax, one lemma a step (30_encoding.md R88). -/

namespace Sys2Proof.Laws.RoundTrip

/-- The step is well formed, and reading the code written for it gives it back. -/
def Statement (i : Instr) : Prop := i.wellFormed = true ∧ decode (encode i) = i

theorem idle : Statement .idle := ⟨rfl, rfl⟩
theorem lbWaitMark : Statement .lbWaitMark := ⟨rfl, rfl⟩
theorem lbRetMark : Statement .lbRetMark := ⟨rfl, rfl⟩
theorem lbWaitSpace : Statement .lbWaitSpace := ⟨rfl, rfl⟩
theorem lbRetSpace : Statement .lbRetSpace := ⟨rfl, rfl⟩
theorem decInit : Statement .decInit := ⟨rfl, rfl⟩
theorem fbWaitMark : Statement .fbWaitMark := ⟨rfl, rfl⟩
theorem brRetMark : Statement .brRetMark := ⟨rfl, rfl⟩
theorem brWaitSpace : Statement .brWaitSpace := ⟨rfl, rfl⟩
theorem brRetSpace : Statement .brRetSpace := ⟨rfl, rfl⟩
theorem bitHead : Statement .bitHead := ⟨rfl, rfl⟩
theorem bitWaitMark : Statement .bitWaitMark := ⟨rfl, rfl⟩
theorem zRetSpace : Statement .zRetSpace := ⟨rfl, rfl⟩
theorem zWaitMark : Statement .zWaitMark := ⟨rfl, rfl⟩
theorem check : Statement .check := ⟨rfl, rfl⟩
theorem done : Statement .done := ⟨rfl, rfl⟩

end Sys2Proof.Laws.RoundTrip
end

