-- ==== Sys2Proof/Laws/Step.lean ====
section
/-! SUPPORT. What a tick does, said once: the two cases of a tick, what every step rule leaves alone, and how the
input moves on. -/

namespace Sys2Proof.Machine

/-- Everything a tick can do: reset, or the decoded step's rule between `beginTick` and `endTick`
(42_wait_and_retain.md R135). -/
theorem step_cases {s t : State} (h : step s = .next t) :
    (s.pins.rst = true ∧ t = resetTick s) ∨
    (s.pins.rst = false ∧ ∃ u, exec (decode s.stepReg) (beginTick s) = .next u ∧ t = endTick u) := by
  unfold step at h
  cases hr : s.pins.rst with
  | true =>
    simp only [hr, if_true] at h
    injection h with h
    exact .inl ⟨rfl, h.symm⟩
  | false =>
    simp only [hr] at h
    cases hx : exec (decode s.stepReg) (beginTick s) with
    | next u =>
      simp only [hx] at h
      injection h with h
      exact .inr ⟨rfl, u, rfl, h.symm⟩
    | fault r => simp [hx] at h
    | refused r => simp [hx] at h

/-- Every step rule answers a next state (42_wait_and_retain.md R147). -/
theorem exec_total (i : Instr) (s : State) : ∃ t, exec i s = .next t := by
  cases i <;> exact ⟨_, rfl⟩

/-- A property of the states a WAIT can write holds of the state it writes. -/
theorem runWait_induct {P : State → Prop} {l : DefiniteLevel} {w : Nat} {succeed fail : State → State} {s : State}
    (hs : P (succeed s)) (hf : P (fail s)) (hk : P s) (ha : P (arm (emitPollTick (startWT w s))))
    (hfa : P (fail (emitPollTick (startWT w s)))) : P (runWait l w succeed fail s) := by
  rcases runWait_cases l w succeed fail s with ⟨_, _, h⟩ | ⟨_, _, _, h⟩ | ⟨_, _, _, h⟩ | ⟨_, _, h⟩ | ⟨_, _, h⟩ <;>
    simpa [h]

/-- A property of the states a RETAIN can write holds of the state it writes. -/
theorem runRetain_induct {P : State → Prop} {l : DefiniteLevel} {w : Nat} {succeed fail : State → State}
    {s : State} (hs : P (succeed s)) (hf : P (fail s)) (hk : P s) (ha : P (arm (startWT w s)))
    (hfa : P (fail (startWT w s))) : P (runRetain l w succeed fail s) := by
  rcases runRetain_cases l w succeed fail s with
    ⟨_, _, h⟩ | ⟨_, _, _, h⟩ | ⟨_, _, _, h⟩ | ⟨_, _, h⟩ | ⟨_, _, h⟩ <;> simpa [h]

/-- A property of the states a PAUSE can write holds of the state it writes. -/
theorem runPause_induct {P : State → Prop} {w : Nat} {succeed : State → State} {s : State}
    (hs : P (succeed s)) (hk : P s) (ha : P (arm (startWT w s))) : P (runPause w succeed s) := by
  rcases runPause_cases w succeed s with ⟨_, _, h⟩ | ⟨_, _, h⟩ | ⟨_, h⟩ <;> simpa [h]

/-- What no step rule writes: the configuration, the input and `now` (10_state.md R24, R34). -/
theorem exec_frame {i : Instr} {s t : State} (h : exec i s = .next t) :
    t.config = s.config ∧ t.waveform = s.waveform ∧ t.ticks = s.ticks ∧ t.now = s.now := by
  let P : State → Prop := fun t =>
    t.config = s.config ∧ t.waveform = s.waveform ∧ t.ticks = s.ticks ∧ t.now = s.now
  show P t
  cases i <;> injection h with h <;> subst h
  case idle => simp [P]
  case decInit => simp [P]
  case bitHead => repeat' split
                  all_goals simp [P]
  case check => split <;> simp [P]
  case done => apply runPause_induct (P := P) <;> simp [P, returnToIdle]
  case lbRetMark => apply runRetain_induct (P := P) <;> simp [P]
  case lbRetSpace => apply runRetain_induct (P := P) <;> simp [P]
  case brRetMark => apply runRetain_induct (P := P) <;> simp [P]
  case brRetSpace => apply runRetain_induct (P := P) <;> simp [P]
  case zRetSpace => apply runRetain_induct (P := P) <;> simp [P]
  all_goals apply runWait_induct (P := P) <;> simp [P, classifyOne, classifyZero]

/-- The pins of the coming ticks after a tick are those of the tick after it before. -/
theorem pinsAt_endTick (u : State) (k : Nat) : (endTick u).pinsAt k = u.pinsAt (k + 1) := by
  unfold State.pinsAt
  simp [Nat.add_comm, Nat.add_left_comm]

/-- A tick moves the input on by one, whatever it does. -/
theorem pinsAt_step {s t : State} (h : step s = .next t) (k : Nat) : t.pinsAt k = s.pinsAt (k + 1) := by
  rcases step_cases h with ⟨_, rfl⟩ | ⟨_, u, hx, rfl⟩
  · unfold State.pinsAt
    simp [State.resetOf, Nat.add_comm, Nat.add_left_comm]
  · obtain ⟨_, hw, ht, _⟩ := exec_frame hx
    rw [pinsAt_endTick]
    unfold State.pinsAt
    simp [hw, ht]

/-- No tick changes the configuration (10_state.md R34). -/
theorem config_step {s t : State} (h : step s = .next t) : t.config = s.config := by
  rcases step_cases h with ⟨_, rfl⟩ | ⟨_, u, hx, rfl⟩
  · rfl
  · simpa using (exec_frame hx).1

/-- The levels of the coming samples move on with the input. -/
theorem levelAt_step {s t : State} (h : step s = .next t) (k : Nat) : t.levelAt k = s.levelAt (k + 1) := by
  simp [State.levelAt, config_step h, pinsAt_step h]

/-- A step rule sees the pins and the level of the state the tick began with: the pulses do not matter. -/
@[simp] theorem level_beginTick (s : State) : (beginTick s).level = s.level := rfl
@[simp] theorem levelAt_beginTick (s : State) (k : Nat) : (beginTick s).levelAt k = s.levelAt k := rfl
@[simp] theorem pins_beginTick (s : State) : (beginTick s).pins = s.pins := rfl

end Sys2Proof.Machine
end

