-- ==== Sys2Proof/Laws/Time.lean ====
section
/-! SUPPORT. The arithmetic of the timers (41_deadline_timer.md R129) as facts about natural numbers. -/

namespace Sys2Proof.Machine

/-- `expired` as a comparison of numbers (41_deadline_timer.md R123). -/
theorem expired_iff (now : Word) (t : Timer) : expired now t = true ↔ t.dur.toNat ≤ (elapsed now t).toNat := by
  simp [expired, BitVec.le_def]

theorem not_expired_iff (now : Word) (t : Timer) :
    expired now t = false ↔ (elapsed now t).toNat < t.dur.toNat := by
  rw [← Bool.not_eq_true, expired_iff]
  omega

/-- One tick later one more has elapsed, unless the count wraps. -/
theorem elapsed_succ (now : Word) (t : Timer) (h : (elapsed now t).toNat < 2 ^ 32 - 1) :
    (elapsed (now + 1) t).toNat = (elapsed now t).toNat + 1 := by
  unfold elapsed at *
  bv_omega

/-- One tick later at most one more has elapsed. -/
theorem elapsed_succ_le (now : Word) (t : Timer) :
    (elapsed (now + 1) t).toNat ≤ (elapsed now t).toNat + 1 := by
  unfold elapsed
  bv_omega

/-- A timer just started has counted one tick at the next one (41_deadline_timer.md R122). -/
@[simp] theorem elapsed_start (now d : Word) : elapsed (now + 1) ⟨now, d⟩ = 1 := by
  unfold elapsed
  bv_omega

/-- A legal window is written to a duration register without loss. -/
theorem toNat_duration (c : Config) {d : Nat} (hd : d ∈ c.params.durations) : (BitVec.ofNat 32 d).toNat = d := by
  have := c.duration_range hd
  simp [BitVec.toNat_ofNat]
  omega

end Sys2Proof.Machine
end

