-- ==== Sys2Proof/Tests/Slice0.lean ====
section
/-! SUPPORT. Tests. The expected results are the spec's: the codes of 30_encoding.md R88, the vectors of
95_test_vectors.md parts A and B. The witnesses at the end show that the hypotheses of the statements can be met,
each clause at a boundary of its range. -/

namespace Sys2Proof.Tests

open Sys2Proof Sys2Proof.Machine

/-! ## Well-formedness: one ill-formed configuration for each check (00_scope.md R8, R9)

A step has no operand (30_encoding.md R93), so there is no ill-formed `Instr` to refuse. -/

theorem test_refuses_one_adc_bit : Params.legal { adcBits := 1, lowThreshold := 1 } = false := by decide
theorem test_refuses_seventeen_adc_bits : Params.legal { adcBits := 17, lowThreshold := 1 } = false := by decide
theorem test_refuses_threshold_0 : (Params.withDefaults 0).thresholdLegal = false := by decide
theorem test_refuses_threshold_512 : (Params.withDefaults 512).thresholdLegal = false := by decide
theorem test_refuses_window_0 : Params.durationsLegal { lowThreshold := 1, tPause := 0 } = false := by decide
theorem test_refuses_window_2_pow_31 : Params.durationsLegal { lowThreshold := 1, tFrame := 2 ^ 31 } = false := by
  decide
theorem test_refuses_eMax_2_pow_32 :
    Params.frameTimerLegal { lowThreshold := 1, tZeroSpaceRetain := 2 ^ 28 } = false := by decide
theorem test_build_refuses :
    build (Params.withDefaults 0) [] = .refused .illegalConfiguration := by
  have h : (Params.withDefaults 0).legal = false := by
    simp [Params.legal, test_refuses_threshold_0]
  simp [build, h]
theorem test_every_step_wellFormed (i : Instr) : i.wellFormed = true := by cases i <;> rfl

/-! ## The step codes, bit 3 first (30_encoding.md R88, column "code") -/

theorem test_decode_idle : decode 0b0000#4 = .idle := by decide
theorem test_decode_lbWaitMark : decode 0b0001#4 = .lbWaitMark := by decide
theorem test_decode_lbRetMark : decode 0b0010#4 = .lbRetMark := by decide
theorem test_decode_lbWaitSpace : decode 0b0011#4 = .lbWaitSpace := by decide
theorem test_decode_lbRetSpace : decode 0b0100#4 = .lbRetSpace := by decide
theorem test_decode_decInit : decode 0b0101#4 = .decInit := by decide
theorem test_decode_fbWaitMark : decode 0b0110#4 = .fbWaitMark := by decide
theorem test_decode_brRetMark : decode 0b0111#4 = .brRetMark := by decide
theorem test_decode_brWaitSpace : decode 0b1000#4 = .brWaitSpace := by decide
theorem test_decode_brRetSpace : decode 0b1001#4 = .brRetSpace := by decide
theorem test_decode_bitHead : decode 0b1010#4 = .bitHead := by decide
theorem test_decode_bitWaitMark : decode 0b1011#4 = .bitWaitMark := by decide
theorem test_decode_zRetSpace : decode 0b1100#4 = .zRetSpace := by decide
theorem test_decode_zWaitMark : decode 0b1101#4 = .zWaitMark := by decide
theorem test_decode_check : decode 0b1110#4 = .check := by decide
theorem test_decode_done : decode 0b1111#4 = .done := by decide
theorem test_decodeTableWord_bitHead : decodeTableWord 8 0b00001010 = some .bitHead := by decide
theorem test_decodeTableWord_short : decodeTableWord 3 0b010 = none := by decide

/-! ## Levels, timers, integrity (95_test_vectors.md B1, B2, S1) -/

/-- The default block with the threshold the vectors use. -/
def block300 : Config := Config.ofThreshold 300 (by decide) (by decide)

theorem test_b1_299 : levelOf block300 (readingOf block300 299) = .mark := by decide
theorem test_b1_300 : levelOf block300 (readingOf block300 300) = .indeterminate := by decide
theorem test_b1_723 : levelOf block300 (readingOf block300 723) = .indeterminate := by decide
theorem test_b1_724 : levelOf block300 (readingOf block300 724) = .nonMark := by decide
theorem test_b2_before_expiry : expired 1299 ⟨1000, 300⟩ = false := by decide
theorem test_b2_at_duration : expired 1300 ⟨1000, 300⟩ = true := by decide
theorem test_b2_wrap_before : expired 0x0000002B ⟨0xFFFFFF00, 300⟩ = false := by decide
theorem test_b2_wrap_at : expired 0x0000002C ⟨0xFFFFFF00, 300⟩ = true := by decide
theorem test_s1_pass : checkIntegrity 0x12 0xED = true := by decide
theorem test_s1_fail : checkIntegrity 0x12 0x00 = false := by decide

/-! ## Single ticks (95_test_vectors.md B3, B5, B6) -/

/-- A block in the given step with one tick's sample, the other registers at their reset values. -/
def at300 (code : BitVec 4) (armed : Bool) (now : Word) (wt : Timer) (sample : Reading) : State :=
  { State.resetOf block300 [⟨false, sample⟩] 0 with stepReg := code, armed := armed, now := now, wt := wt }

/-- A value read from the state after one tick. -/
def afterTick {α : Type} (s : State) (f : State → α) : Option α :=
  match step s with
  | .next t => some (f t)
  | .fault _ => none
  | .refused _ => none

theorem test_b3_20_idle : afterTick (at300 0 false 42 ⟨0, 0⟩ 0) (fun t => (t.stepReg, t.now)) = some (1, 43) := by
  decide
theorem test_b3_1_lbWaitMark :
    afterTick (at300 1 false 5000 ⟨0, 0⟩ 1023) (fun t => (t.stepReg, t.armed, t.wt, t.dbgPollTick)) =
      some (1, true, ⟨5000, 900⟩, true) := by decide
theorem test_b3_4_lbWaitMark :
    afterTick (at300 1 true 5900 ⟨5000, 900⟩ 0) (fun t => (t.stepReg, t.armed)) = some (2, false) := by decide
theorem test_b4_8501_lbRetMark :
    afterTick (at300 2 true 8501 ⟨101, 8400⟩ 1023) (fun t => (t.stepReg, t.armed)) = some (3, false) := by decide
theorem test_b4_5100_lbRetMark :
    afterTick (at300 2 true 5100 ⟨101, 8400⟩ 1023) (fun t => (t.stepReg, t.rejectValid)) = some (0, false) := by
  decide
theorem test_b3_8_lbWaitSpace :
    afterTick (at300 3 false 300 ⟨0, 0⟩ 0) (fun t => (t.stepReg, t.armed, t.wt)) =
      some (3, true, ⟨300, 1000⟩) := by decide
theorem test_b3_9_lbWaitSpace :
    afterTick (at300 3 false 300 ⟨0, 0⟩ 1023) (fun t => (t.stepReg, t.wt, t.dbgPollTick)) =
      some (0, ⟨300, 1000⟩, true) := by decide
theorem test_b3_16_lbRetSpace :
    afterTick (at300 4 true 12000 ⟨9101, 4100⟩ 0) (fun t => (t.stepReg, t.result, t.rejectValid)) =
      some (0, .none, false) := by decide
theorem test_b5_1_decInit :
    afterTick { at300 5 false 13202 ⟨0, 0⟩ 0 with raw := 0xDEADBEEF, idx := 63, result := .rejIntegrity }
      (fun t => (t.stepReg, t.ft, t.raw, t.idx, t.result)) =
      some (6, ⟨13202, 58000⟩, 0, 31, .rejIntegrity) := by decide
theorem test_b3_23_fbWaitMark :
    afterTick (at300 6 false 13203 ⟨0, 0⟩ 0) (fun t => (t.stepReg, t.wt, t.result, t.rejectValid)) =
      some (15, ⟨13203, 900⟩, .rejTimeout, true) := by decide
theorem test_b3_11_brRetMark :
    afterTick (at300 7 false 2000 ⟨0, 0⟩ 512) (fun t => (t.stepReg, t.armed, t.wt, t.dbgPollTick)) =
      some (7, true, ⟨2000, 150⟩, false) := by decide
theorem test_b3_15_brRetMark :
    afterTick (at300 7 true 2150 ⟨2000, 150⟩ 1023) (fun t => (t.stepReg, t.armed)) = some (8, false) := by decide
theorem test_b5_b152_brWaitSpace :
    afterTick (at300 8 false 13752 ⟨0, 0⟩ 1023) (fun t => (t.stepReg, t.result)) = some (15, .rejTimeout) := by
  decide
theorem test_b5_tail_brRetSpace :
    afterTick (at300 9 true 50900 ⟨50701, 200⟩ 0) (fun t => (t.stepReg, t.result)) = some (15, .rejTimeout) := by
  decide
theorem test_b5_2_bitHead :
    afterTick { at300 10 false 80000 ⟨0, 0⟩ 0 with idx := 63, ft := ⟨10000, 58000⟩ } State.stepReg = some 14 := by
  decide
theorem test_b5_3_bitHead :
    afterTick { at300 10 false 68000 ⟨0, 0⟩ 0 with idx := 5, ft := ⟨10000, 58000⟩ }
      (fun t => (t.stepReg, t.result, t.rejectValid)) = some (15, .rejDeadline, true) := by decide
theorem test_b5_6_bitWaitMark :
    afterTick (at300 11 false 1000 ⟨0, 0⟩ 0) (fun t => (t.stepReg, t.idx, t.wt, t.dbgPollTick, t.dbgBitTick)) =
      some (12, 30, ⟨1000, 300⟩, true, true) := by decide
theorem test_b5_9_bitWaitMark :
    afterTick { at300 11 true 1300 ⟨1000, 300⟩ 0 with idx := 0, raw := 0x00FFFF00 }
      (fun t => (t.stepReg, t.raw, t.idx)) = some (7, 0x00FFFF01, 63) := by decide
theorem test_b3_24_zRetSpace :
    afterTick { at300 12 false 100 ⟨0, 0⟩ 0 with idx := 30 } (fun t => (t.stepReg, t.wt, t.idx)) =
      some (15, ⟨100, 700⟩, 30) := by decide
theorem test_b3_21_zWaitMark :
    afterTick (at300 13 true 0x2B ⟨0xFFFFFF00, 300⟩ 1023) (fun t => (t.stepReg, t.armed)) = some (13, true) := by
  decide
theorem test_b3_22_zWaitMark :
    afterTick (at300 13 true 0x2C ⟨0xFFFFFF00, 300⟩ 1023) (fun t => (t.stepReg, t.result)) =
      some (15, .rejTimeout) := by decide
theorem test_b6_20DF10EF_check :
    afterTick { at300 14 false 0 ⟨0, 0⟩ 0 with raw := 0x20DF10EF, idx := 63 } State.outputs =
      some ⟨true, 0x20, 0x10, false, 1, 3, false, false⟩ := by decide
theorem test_b6_12EDAA54_check :
    afterTick { at300 14 false 0 ⟨0, 0⟩ 0 with raw := 0x12EDAA54, idx := 63 } State.outputs =
      some ⟨false, 0, 0, true, 3, 4, false, false⟩ := by decide
theorem test_b3_18_done :
    afterTick (at300 15 true 7999 ⟨7000, 1000⟩ 0) (fun t => (t.stepReg, t.armed)) = some (15, true) := by decide
theorem test_b3_19_done :
    afterTick (at300 15 true 8000 ⟨7000, 1000⟩ 0) (fun t => (t.stepReg, t.armed)) = some (0, false) := by decide
theorem test_b3_25_reset :
    afterTick { at300 9 true 777 ⟨7, 8⟩ 0 with waveform := [⟨true, 0⟩], idx := 3 } (fun t => (t.stepReg, t.now, t.idx)) =
      some (0, 0, 31) := by decide

/-! ## The notation (30_encoding.md R94, R95) -/

theorem test_expandWaveform :
    expandWaveform block300.params [.nonMark 1, .value 200 2, .mark 1, .indeterminate 1] =
      [⟨false, 1023⟩, ⟨false, 200⟩, ⟨false, 200⟩, ⟨false, 0⟩, ⟨false, 512⟩] := by decide
theorem test_frame_first_slot_is_bit_31 :
    (frame 0x80000000).take 4 = [.mark 300, .nonMark 350, .mark 300, .nonMark 1350] := by decide

/-! ## Witnesses for the statements' hypotheses -/

/-- A legal block with windows of 2 or 3 ticks, so that a witness fits in a few samples. -/
def tiny : Config :=
  ⟨{ lowThreshold := 300, tLeadMarkWait := 2, tLeadMarkRetain := 3, tLeadSpaceWait := 2, tLeadSpaceRetain := 2,
     tFirstMarkWait := 2, tBitMarkWait := 2, tBurstMarkRetain := 3, tBurstSpaceWait := 2, tBurstSpaceRetain := 2,
     tZeroSpaceRetain := 2, tFrame := 50, tPause := 2 }, by decide⟩

/-- A tiny block at the first tick of a step, with these samples to come (0 Mark, 1023 NonMark). -/
def fresh (code : BitVec 4) (samples : List Reading) : State :=
  { State.resetOf tiny (samples.map fun a => ⟨false, a⟩) 0 with stepReg := code }

theorem witness_TickRunsTheDecodedStep :
    let s := fresh 5 [0]
    s.pins.rst = false ∧ decode s.stepReg = .decInit ∧
    exec .decInit { s with frameValid := false, rejectValid := false, dbgPollTick := false, dbgBitTick := false } =
      .next (goto .fbWaitMark { startFT 50 (beginTick s) with raw := 0, idx := 31 }) := ⟨rfl, rfl, rfl⟩

theorem witness_ResetTickWritesEveryRegister :
    { fresh 9 [] with waveform := [⟨true, 5⟩] }.pins.rst = true := rfl

theorem witness_IllegalConfigurationsAreRefused :
    (Params.withDefaults 0).lowThreshold = 0 ∧ 2 * (Params.withDefaults 512).lowThreshold > 1023 ∧
    2 * (Params.withDefaults 511).lowThreshold ≤ (Params.withDefaults 511).fullScale ∧
    (Params.withDefaults 511).legal = true :=
  ⟨rfl, by decide, by decide, Params.withDefaults_legal 511 (by decide) (by decide)⟩

theorem witness_SampleLevelPredicates : block300.params.lowThreshold = 300 := rfl

/-- A timer that has not wrapped, and the last tick at which expiry holds. -/
theorem witness_ExpiryIsModularAndLasts :
    let t : Timer := ⟨1000, 300⟩
    t.start.toNat + t.dur.toNat < 2 ^ 32 ∧ t.start.toNat ≤ (1300 : Word).toNat ∧ t.dur.toNat ≤ 2 ^ 32 - 1 ∧
    299 < t.dur.toNat := by decide

theorem witness_AcceptedWordsAreComplementPairs :
    frameOk 0x12EDAA55 = true ∧ (0x12EDAA55 : Word) = (0x12 : Byte) ++ ~~~(0x12 : Byte) ++ (0xAA : Byte) ++ ~~~(0xAA : Byte) := by
  decide

theorem witness_FailureEntryWrites :
    ((fresh 9 [0, 0]).pinsAt 1).rst = false ∧
    Instr.lbWaitMark ∈ [Instr.lbWaitMark, .lbRetMark, .lbWaitSpace, .lbRetSpace] ∧
    decode (fresh 1 [0]).stepReg = .lbWaitMark ∧
    ∃ t, exec .lbWaitMark (fresh 1 [0]) = .next t ∧ t.stepReg = 0 := ⟨rfl, by decide, rfl, _, rfl, rfl⟩

theorem witness_PauseLastsItsWindowPlusOne :
    let s := fresh 15 [0, 1023, 512]
    s.stepReg = 15 ∧ s.armed = false ∧ s.noReset (s.config.params.tPause + 1) :=
  ⟨rfl, rfl, by unfold State.noReset; decide⟩

theorem witness_WaitArmTick :
    let s := fresh 1 [0]
    (stepTable s.config.params .lbWaitMark).kind = .wait .mark ∧ s.armed = false := ⟨rfl, rfl⟩

theorem witness_WaitPollTick :
    let s := { fresh 8 [0] with armed := true }
    (stepTable s.config.params .brWaitSpace).kind = .wait .nonMark ∧ s.armed = true := ⟨rfl, rfl⟩

theorem witness_RetainTicks : (stepTable tiny.params .zRetSpace).kind = .retain .nonMark := rfl

/-- The first clause at both ends of its range, `n = 1` and `n = W = 2`. -/
theorem witness_WaitAccepts_success :
    (let s := fresh 1 [1023, 0]
     s.row.kind = .wait .mark ∧ s.armed = false ∧ 1 ≤ s.row.window ∧ s.noReset 2 ∧
       s.levelAt 0 = DefiniteLevel.mark.opp.level ∧ s.levelAt 1 = DefiniteLevel.mark.level) ∧
    (let s := fresh 1 [1023, 512, 0]
     s.row.kind = .wait .mark ∧ s.armed = false ∧ s.row.window = 2 ∧ s.noReset 3 ∧
       s.levelAt 0 = DefiniteLevel.mark.opp.level ∧ s.levelAt 1 ≠ DefiniteLevel.mark.level ∧
       s.levelAt 2 = DefiniteLevel.mark.level) := by
  unfold State.noReset; decide

/-- The other two clauses: the arm tick fails, and the window runs out. -/
theorem witness_WaitAccepts_failure :
    (let s := fresh 8 [512]
     s.row.kind = .wait .nonMark ∧ s.armed = false ∧ s.noReset 1 ∧ s.levelAt 0 ≠ DefiniteLevel.nonMark.opp.level) ∧
    (let s := fresh 8 [0, 0, 512]
     s.row.kind = .wait .nonMark ∧ s.armed = false ∧ s.row.window = 2 ∧ s.noReset 3 ∧
       s.levelAt 0 = DefiniteLevel.nonMark.opp.level ∧ s.levelAt 1 ≠ DefiniteLevel.nonMark.level ∧
       s.levelAt 2 ≠ DefiniteLevel.nonMark.level) := by
  unfold State.noReset; decide

/-- A retention held to its end, and one failing at its first and at its last examined sample. -/
theorem witness_RetainAcceptsAHeldLevel :
    (let s := fresh 4 [1023, 512, 0]
     s.row.kind = .retain .nonMark ∧ s.armed = false ∧ s.row.window = 2 ∧ s.noReset 3 ∧
       s.levelAt 0 ≠ DefiniteLevel.nonMark.opp.level ∧ s.levelAt 1 ≠ DefiniteLevel.nonMark.opp.level) ∧
    (let s := fresh 4 [0]
     s.row.kind = .retain .nonMark ∧ s.noReset 1 ∧ s.levelAt 0 = DefiniteLevel.nonMark.opp.level) ∧
    (let s := fresh 4 [1023, 0]
     s.row.kind = .retain .nonMark ∧ s.noReset 2 ∧ s.levelAt 0 ≠ DefiniteLevel.nonMark.opp.level ∧
       s.levelAt 1 = DefiniteLevel.nonMark.opp.level) := by
  unfold State.noReset; decide

theorem witness_EveryVisitEnds :
    (let s := fresh 0 [0]
     s.armed = false ∧ s.row.window = 0 ∧ s.noReset (s.row.window + 1)) ∧
    (let s := fresh 15 [0, 0, 0]
     s.armed = false ∧ s.row.window = 2 ∧ s.noReset (s.row.window + 1)) := by
  unfold State.noReset; decide

/-- Accepted pulses, here with `R = 3` and `W = 2`, at both ends of their range, 6 and 7 ticks, for both steps. -/
theorem witness_AcceptedPulseWidths_accepted :
    (∀ code ∈ [2#4, 7#4],
      let s := fresh code [0, 0, 0, 0, 0, 1023]
      s.armed = false ∧ (∀ k, k < 5 → s.levelAt k = .mark) ∧ s.noReset 6 ∧ s.levelAt 5 = .nonMark) ∧
    (∀ code ∈ [2#4, 7#4],
      let s := fresh code [0, 0, 0, 0, 0, 0, 1023]
      s.armed = false ∧ (∀ k, k < 6 → s.levelAt k = .mark) ∧ s.noReset 7 ∧ s.levelAt 6 = .nonMark) ∧
    tiny.params.tLeadMarkRetain = 3 ∧ tiny.params.tBurstMarkRetain = 3 ∧
    tiny.params.tLeadSpaceWait = 2 ∧ tiny.params.tBurstSpaceWait = 2 := by
  unfold State.noReset; decide

/-- Pulses too short (1 and 5 ticks) and too long (8 ticks), for both steps. -/
theorem witness_AcceptedPulseWidths_failed :
    (∀ code ∈ [2#4, 7#4],
      let s := fresh code [1023, 1023, 1023, 1023, 1023]
      s.armed = false ∧ s.noReset 5 ∧ ∀ k, k < 5 → s.levelAt k = .nonMark) ∧
    (∀ code ∈ [2#4, 7#4],
      let s := fresh code [0, 0, 0, 0, 1023]
      s.armed = false ∧ (∀ k, k < 4 → s.levelAt k = .mark) ∧ s.noReset 5 ∧ s.levelAt 4 = .nonMark) ∧
    (∀ code ∈ [2#4, 7#4],
      let s := fresh code [0, 0, 0, 0, 0, 0, 0]
      s.armed = false ∧ (∀ k, k < 7 → s.levelAt k = .mark) ∧ s.noReset 7) := by
  unfold State.noReset; decide

/-- Preamble spaces, here with `R = 2` and `W = 2`: accepted at both ends of the range, 6 and 7 ticks. -/
theorem witness_AcceptedPreambleSpaceWidths_accepted :
    ∀ m ∈ [6, 7],
      let s := fresh 4 (List.replicate (m - 1) 1023 ++ [0])
      s.stepReg = 4 ∧ s.armed = false ∧ s.config.params.tLeadSpaceRetain = 2 ∧ s.config.params.tFirstMarkWait = 2 ∧
      (∀ k, k < m → k + 1 < m → s.levelAt k = .nonMark) ∧ s.noReset m ∧ s.levelAt (m - 1) = .mark := by
  unfold State.noReset; decide

/-- Preamble spaces that send the block back to IDLE (1 and 2 ticks), and that are rejected: too short for
FB_WAIT_MARK (3 and 5 ticks), and too long (8 ticks or without an end). -/
theorem witness_AcceptedPreambleSpaceWidths_failed :
    (∀ m ∈ [1, 2],
      let s := fresh 4 (List.replicate (m - 1) 1023 ++ [0])
      (∀ k, k < m → k + 1 < m → s.levelAt k = .nonMark) ∧ s.noReset m ∧ s.levelAt (m - 1) = .mark) ∧
    (∀ m ∈ [3, 5],
      let s := fresh 4 (List.replicate (m - 1) 1023 ++ [0, 0, 0])
      (∀ k, k < m → k + 1 < m → s.levelAt k = .nonMark) ∧ s.noReset 5 ∧
        ∀ k, k < 5 → m ≤ k + 1 → s.levelAt k = .mark) ∧
    (let s := fresh 4 (List.replicate 7 1023)
     (∀ k, k < 8 → k + 1 < 8 → s.levelAt k = .nonMark) ∧ s.noReset 7) := by
  unfold State.noReset; decide

/-- A slot of a burst of `b` ticks, from its second sample on, and a space of `n` ticks, with `next` first samples of
the next burst, and a deadline far off. -/
def slotState (b n next : Nat) : State :=
  { fresh 7 (List.replicate (b - 1) 0 ++ List.replicate n 1023 ++ List.replicate next 0) with
    now := 5, ft := ⟨0, 50⟩ }

/-- What every clause of the slot statement asks. -/
def slotHypotheses (s : State) (b n : Nat) : Prop :=
  s.stepReg = 7 ∧ s.armed = false ∧ s.idx.toNat ≤ 31 ∧ (elapsed s.now s.ft).toNat + b + n < s.ft.dur.toNat ∧
  s.config.params.tBurstMarkRetain + 3 ≤ b ∧
  b ≤ s.config.params.tBurstMarkRetain + 2 + s.config.params.tBurstSpaceWait ∧
  (∀ k, k < b → k + 1 < b → s.levelAt k = .mark) ∧
  (∀ k, k < b + n → b ≤ k + 1 → k + 1 < b + n → s.levelAt k = .nonMark)

/-- In the tiny block `S`, `M` and `Z` are 2: the ends of the ranges of a 1 (6 and 7 ticks), of the dead band (8 and
11) and of a 0 (12 and 13), with the shortest and the longest burst (6 and 7). -/
theorem witness_BitSlotsAreReadFromTheirWidths :
    tiny.params.tBurstSpaceRetain = 2 ∧ tiny.params.tBitMarkWait = 2 ∧ tiny.params.tZeroSpaceRetain = 2 ∧
    ∀ x ∈ [(6, 6), (7, 7), (6, 8), (7, 11), (6, 12), (7, 13)],
      let s := slotState x.1 x.2 2
      slotHypotheses s x.1 x.2 ∧ s.noReset (x.1 + x.2 + 1) ∧
      s.levelAt (x.1 + x.2 - 1) = .mark ∧ s.levelAt (x.1 + x.2) = .mark := by
  unfold State.noReset slotHypotheses; decide

/-- Spaces too short at both ends of their range, 1 and `S + 3 = 5` ticks, with the next burst up to the last tick
the block looks at. -/
theorem witness_BitSlots_tooShort :
    ∀ n ∈ [1, 5],
      let s := slotState 6 n 8
      slotHypotheses s 6 n ∧ s.noReset (6 + 2 + 4) ∧
      ∀ k, k < 6 + 2 + 4 → 6 + n ≤ k + 1 → s.levelAt k = .mark := by
  unfold State.noReset slotHypotheses; decide

/-- The shortest space too long, `S + 2M + Z + 6 = 14` ticks, with no burst after it. -/
theorem witness_BitSlots_tooLong :
    let s := slotState 6 14 0
    slotHypotheses s 6 14 ∧ s.noReset (6 + 2 + 2 * 2 + 2 + 5) := by
  unfold State.noReset slotHypotheses; decide

/-- The closing burst: the shortest space that is enough (`S + 1 = 3`), with a word that passes and one that does not,
and the longest that is not (2). -/
theorem witness_ClosingBurstLeadsToTheCheck :
    (∀ word ∈ [0x20DF10EF, 0x12EDAA54],
      let s := { slotState 6 3 3 with idx := 63, raw := BitVec.ofNat 32 word }
      s.stepReg = 7 ∧ s.armed = false ∧ s.idx = 63 ∧
      (∀ k, k < 6 → k + 1 < 6 → s.levelAt k = .mark) ∧
      (∀ k, k < 9 → 6 ≤ k + 1 → k + 1 < 9 → s.levelAt k = .nonMark) ∧ s.noReset (6 + 2 + 3)) ∧
    frameOk 0x20DF10EF = true ∧ frameOk 0x12EDAA54 = false ∧
    (let s := { slotState 6 2 1 with idx := 63 }
     (∀ k, k < 6 → k + 1 < 6 → s.levelAt k = .mark) ∧
     (∀ k, k < 8 → 6 ≤ k + 1 → k + 1 < 8 → s.levelAt k = .nonMark) ∧ s.noReset 8 ∧ s.levelAt 7 = .mark) := by
  unfold State.noReset; decide

/-- An entry of the waveform, and a next state: what `LevelCodeJoinsThePredicates` asks of the input. -/
theorem witness_LevelCodeJoinsThePredicates :
    (fresh 0 [0, 512]).waveform[1]? = some ⟨false, 512⟩ ∧ ∃ t, step (fresh 0 [0, 512]) = .next t := ⟨rfl, _, rfl⟩

/-- A tick with `rst` 0 and its next state: what `OnlyTheTablesTransitions`, `RegistersChangeOnlyByTheirWriters`,
`PulsesMarkTheirEvents` and `AbsoluteTimeDoesNotMatter` ask; here it classifies a bit as 1. -/
theorem witness_tick_without_reset :
    let s := { fresh 11 [0] with armed := true }
    s.pins.rst = false ∧ ∃ t, step s = .next t ∧ t.stepReg = 7 ∧ t.raw = 0x80000000 ∧ t.dbgBitTick = true :=
  ⟨rfl, _, rfl, rfl, rfl, rfl⟩

/-- The same four statements where a frame is accepted. -/
theorem witness_tick_accepting :
    let s := { fresh 14 [0] with raw := 0x20DF10EF, idx := 63 }
    s.pins.rst = false ∧ ∃ t, step s = .next t ∧ t.stepReg = 15 ∧ t.frameValid = true ∧ t.address = 0x20 :=
  ⟨rfl, _, rfl, rfl, rfl, rfl⟩

/-- Each of the four cases of `OnlyTheLevelOfTheSampleMatters`. -/
theorem witness_OnlyTheLevelOfTheSampleMatters :
    levelOf tiny (readingOf tiny 0) = levelOf tiny (readingOf tiny 299) ∧
    (fresh 10 []).row.kind = .ctrl ∧ (fresh 15 []).row.kind = .pause ∧
    (let s := { fresh 7 [] with armed := true, now := 3, wt := ⟨0, 3⟩ }
     s.armed = true ∧ expired s.now s.wt = true ∧ ∃ l, s.row.kind = .retain l) :=
  ⟨by decide, rfl, rfl, rfl, by decide, .mark, rfl⟩

/-- Two different states, in IDLE, that agree on all that is live, and a next state. -/
theorem witness_StaleRegistersAreNeverRead :
    let s := fresh 0 [0]
    let t := { fresh 0 [0] with wt := ⟨5, 6⟩, ft := ⟨7, 8⟩, raw := 9, idx := 63 }
    s ≠ t ∧ SameLive s t ∧ ∃ s', step s = .next s' :=
  ⟨by decide,
   { config := rfl, waveform := rfl, ticks := rfl, stepReg := rfl, armed := rfl, now := rfl,
     wt := (by decide), attempt := (by unfold State.decoding; decide), address := rfl, data := rfl, result := rfl,
     pulses := ⟨rfl, rfl, rfl, rfl⟩ },
   _, rfl⟩

theorem witness_InvariantHoldsAfterReset :
    let s := { fresh 9 [] with waveform := [⟨true, 5⟩] }
    s.pins.rst = true ∧ ∃ t, step s = .next t := ⟨rfl, _, rfl⟩

/-- A block at BIT_HEAD with 29 bits classified as 0 and the frame deadline just reached. -/
def lateHead : State :=
  { State.resetOf block300 [⟨false, 0⟩] 0 with
    stepReg := 10, now := 58000, ft := ⟨0, 58000⟩, idx := 2 }

/-- A state just after the arm tick of BIT_WAIT_MARK, with the poll pulse given. -/
theorem witness_poll_tick :
    let s := { at300 11 true 101 ⟨100, 300⟩ 0 with dbgPollTick := true }
    s.dbgPollTick = true ∧ elapsed s.now s.wt = 1 ∧ s.row.kind = .wait .mark := by decide

/-- It meets the invariant: the witness for `InvariantIsKeptByEveryTick` and `DeadlineNeedsTwentySevenZeros`. -/
theorem witness_Inv : Inv lateHead where
  armed_window := (by decide)
  idx_range := (by decide)
  first_burst := (by decide)
  bit_left := (by decide)
  zero_counted := (by decide)
  all_bits := (by decide)
  raw_unclassified := (by intro _ j _; exact BitVec.getLsbD_zero)
  frame_timer := (by
    intro _
    have e : (elapsed lateHead.now lateHead.ft).toNat = 58000 := by decide
    have z : lateHead.zeros = 29 := by decide
    have o : lateHead.ones = 0 := by decide
    have w : lateHead.waited = 0 := by decide
    have d : decode lateHead.stepReg = .bitHead := by decide
    have p : lateHead.config.params = Params.withDefaults 300 := rfl
    rw [e, z, o, w, d, p]
    refine ⟨rfl, by omega, ?_, ?_⟩
    · simp only [Params.armBound, Params.headBound, Params.withDefaults_firstHeadBound,
        Params.withDefaults_zeroIterationBound, Params.withDefaults_oneIterationBound]
      omega
    · simp only [Params.deadlineBound, Params.lastHead, Params.withDefaults_firstHeadBound,
        Params.withDefaults_zeroIterationBound]
      simp only [Params.withDefaults]
      omega)
  done_result := (by decide)
  frame_valid := (by decide)
  reject_valid := (by decide)
  bit_tick := (by decide)
  poll_tick := (by intro h; exact absurd h (by decide))

theorem witness_DeadlineNeedsTwentySevenZeros :
    lateHead.stepReg = 10 ∧ lateHead.idx.toNat ≤ 31 ∧
    lateHead.config.params = Params.withDefaults lateHead.config.params.lowThreshold ∧
    (∃ t, exec .bitHead lateHead = .next t ∧ t.result = .rejDeadline ∧ t.rejectValid = true) ∧
    ∃ final : Word, ∀ j, lateHead.idx.toNat < j → j < 32 → final.getLsbD j = lateHead.raw.getLsbD j :=
  ⟨rfl, by decide, rfl, ⟨_, rfl, rfl, rfl⟩, 7, fun j h1 h2 =>
    (show ∀ j : Fin 32, 2 < j.val → (7 : Word).getLsbD j.val = (0 : Word).getLsbD j.val by decide) ⟨j, h2⟩ h1⟩

theorem witness_NoSignalNeverReachesDecoding :
    let s := fresh 0 [512, 0, 300]
    s.stepReg = 0 ∧ s.noReset 3 ∧ ∀ k, k < 3 → s.levelAt k ≠ .nonMark := by
  unfold State.noReset; decide

/-- The late state with `n` samples to come. -/
def lateHeadWith (n : Nat) : State := { lateHead with waveform := List.replicate n ⟨false, 0⟩ }

theorem lateHeadWith_noReset (n : Nat) : (lateHeadWith n).noReset n := by
  intro k hk
  simp [State.pinsAt, lateHeadWith, hk]

/-- The same late state, in the default block, with a whole round of samples to come. -/
theorem witness_EveryRoundEnds :
    let s := lateHeadWith 75364
    s.config.params = Params.withDefaults s.config.params.lowThreshold ∧ s.noReset 75364 ∧ s.decoding ∧ Inv s := by
  refine ⟨rfl, lateHeadWith_noReset _, (show 6 ≤ 10 ∧ 10 ≤ 14 by decide), ?_⟩
  · obtain ⟨a, b, c, d, e, f, g, h, i, j, k, l, m⟩ := witness_Inv
    exact ⟨a, b, c, d, e, f, g, h, i, j, k, l, m⟩

theorem witness_WaveformSegmentsHaveTheirLevels :
    (⟨false, 0⟩ : PinInput) ∈ (Segment.mark 1).expand tiny.params ∧
    (⟨false, 1023⟩ : PinInput) ∈ (Segment.nonMark 2).expand tiny.params ∧
    (⟨false, 512⟩ : PinInput) ∈ (Segment.indeterminate 1).expand tiny.params := by decide

/-- `withFetchWord` makes the next tick run the step of the word, from the reset state. -/
theorem test_withFetchWord_check :
    afterTick (State.reset.withFetchWord 4 0xE) (fun t => (t.stepReg, t.result)) = some (15, .rejIntegrity) := by
  decide

end Sys2Proof.Tests
end

section
/-! The two level predicates of the sampler (40_level_sampler.md R110, R111), stated once as comparisons of
numbers, with their failures and the corner cases that a legal threshold gives. -/

namespace Sys2Proof.Machine

/-- A sample has `ADC_BITS` bits. -/
theorem readingOf_lt (c : Config) (a : Reading) : readingOf c a < 2 ^ c.params.adcBits :=
  Nat.mod_lt _ (Nat.two_pow_pos _)

theorem isMark_iff (c : Config) (x : Nat) : isMark c x = true ↔ x < c.params.lowThreshold := by
  simp [isMark]

theorem isMark_eq_false_iff (c : Config) (x : Nat) : isMark c x = false ↔ c.params.lowThreshold ≤ x := by
  rw [← Bool.not_eq_true, isMark_iff, Nat.not_lt]

/-- `HIGH_THRESHOLD` written out, as R111 derives it. -/
theorem isNonMark_iff (c : Config) (x : Nat) :
    isNonMark c x = true ↔ c.params.fullScale - c.params.lowThreshold < x := by
  simp [isNonMark, Params.highThreshold]

theorem isNonMark_eq_false_iff (c : Config) (x : Nat) :
    isNonMark c x = false ↔ x ≤ c.params.fullScale - c.params.lowThreshold := by
  rw [← Bool.not_eq_true, isNonMark_iff, Nat.not_lt]

/-- The lowest reading is Mark because a legal `LOW_THRESHOLD` is at least 1. -/
theorem isMark_zero (c : Config) : isMark c 0 = true :=
  (isMark_iff c 0).mpr c.threshold_range.1

/-- The highest reading is NonMark because a legal `LOW_THRESHOLD` is at least 1 and does not exceed
`FULL_SCALE`. -/
theorem isNonMark_fullScale (c : Config) : isNonMark c c.params.fullScale = true := by
  obtain ⟨hlow, hhalf⟩ := c.threshold_range
  rw [isNonMark_iff]
  omega

/-- Settles O7: the comparisons are `isMark_iff` and `isNonMark_iff`, and the corner cases at 0 and `FULL_SCALE`
follow from the legal range of the threshold. -/
theorem sampleLevelPredicates : Obligations.SampleLevelPredicates := by
  intro c
  have atThreshold300 (h : c.params.lowThreshold = 300) : isMark c 299 = true ∧ isMark c 300 = false := by
    simp [isMark_iff, isMark_eq_false_iff, h]
  exact ⟨readingOf_lt c, isMark_iff c, isNonMark_iff c,
    (isMark_eq_false_iff c _).mpr (Nat.le_refl _), (isNonMark_eq_false_iff c _).mpr (Nat.le_refl _),
    isMark_zero c, isNonMark_fullScale c, atThreshold300⟩

end Sys2Proof.Machine
end

section
/-! Runs of ticks without a reset (42_wait_and_retain.md R135): the next state of such a tick, the last tick of a
run, and which pins it sees. -/

namespace Sys2Proof.Machine

/-- The converse of `step_cases` at a tick with `rst` 0. -/
theorem step_of_exec {s u : State} (hrst : s.pins.rst = false)
    (hx : exec (decode s.stepReg) (beginTick s) = .next u) : step s = .next (endTick u) := by
  simp [step, hrst, hx]

/-- `run` takes its first tick first; this is its last one. -/
theorem run_succ_of_run {n : Nat} {s t : State} (h : run n s = .next t) : run (n + 1) s = step t := by
  induction n generalizing s with
  | zero =>
    injection h with h
    subst h
    unfold run
    cases step s <;> rfl
  | succ n ih =>
    unfold run at h ⊢
    cases hs : step s with
    | next s' =>
      simp only [hs] at h ⊢
      exact ih h
    | fault r => simp [hs] at h
    | refused r => simp [hs] at h

/-- A run moves the input on by its number of ticks. -/
theorem pinsAt_run {n : Nat} {s t : State} (h : run n s = .next t) (k : Nat) : t.pinsAt k = s.pinsAt (n + k) := by
  induction n generalizing s with
  | zero =>
    injection h with h
    rw [h, Nat.zero_add]
  | succ n ih =>
    unfold run at h
    cases hs : step s with
    | next s' =>
      simp only [hs] at h
      rw [ih h, pinsAt_step hs, Nat.add_right_comm]
    | fault r => simp [hs] at h
    | refused r => simp [hs] at h

/-- The tick after `n` ticks is no reset when more than `n` ticks have none. -/
theorem rst_after_run {n m : Nat} {s t : State} (hno : s.noReset m) (hn : n < m) (h : run n s = .next t) :
    t.pins.rst = false := by
  rw [State.pins, pinsAt_run h]
  exact hno n hn

/-- A timer running for a legal window has expired once the window has elapsed (41_deadline_timer.md R123). -/
theorem expired_window_iff {c : Config} {w : Nat} {now : Word} {t : Timer} (hw : w ∈ c.params.durations)
    (hdur : t.dur = BitVec.ofNat 32 w) : expired now t = true ↔ w ≤ (elapsed now t).toNat := by
  rw [expired_iff, hdur, toNat_duration c hw]

end Sys2Proof.Machine
end

section
/-! The WAIT steps (42_wait_and_retain.md R140, R141): each is `runWait` with the level, the window and the outcomes
of its row of the step table. -/

namespace Sys2Proof.Machine

theorem runWait_of_not_armed {s : State} (ha : s.armed = false) (l : DefiniteLevel) (w : Nat)
    (succeed fail : State → State) :
    runWait l w succeed fail s =
      if s.level = l.opp.level then arm (emitPollTick (startWT w s)) else fail (emitPollTick (startWT w s)) := by
  simp [runWait, ha]

theorem runWait_of_armed {s : State} (ha : s.armed = true) (l : DefiniteLevel) (w : Nat)
    (succeed fail : State → State) :
    runWait l w succeed fail s =
      if s.level = l.level then succeed s else if expired s.now s.wt then fail s else s := by
  simp [runWait, ha]

/-- Classifying a 1 is the success of BIT_WAIT_MARK, with `idx[4:0]` read as `idx` modulo 32. -/
theorem classifyOne_eq_succeedState : classifyOne = succeedState .bitWaitMark := by
  funext s
  simp only [classifyOne, setRawBit, extractLsb'_idx]
  rfl

/-- A WAIT step is `runWait` with the operands of its row; the rows and `exec` state them separately. -/
theorem exec_of_kind_wait {s : State} {i : Instr} {l : DefiniteLevel}
    (hk : (stepTable s.config.params i).kind = .wait l) :
    exec i s = .next (runWait l (stepTable s.config.params i).window (succeedState i) (failState i) s) := by
  cases i <;> cases hk
  case lbWaitMark => exact exec_lbWaitMark s
  case lbWaitSpace => exact exec_lbWaitSpace s
  case fbWaitMark => exact exec_fbWaitMark s
  case brWaitSpace => exact exec_brWaitSpace s
  case bitWaitMark =>
    rw [exec_bitWaitMark, classifyOne_eq_succeedState]
    rfl
  case zWaitMark => exact exec_zWaitMark s

/-- Settles O24: an unarmed WAIT step is the unarmed branch of `runWait` with the operands of its row. -/
theorem waitArmTick : Obligations.WaitArmTick := by
  intro s i l hk ha
  rw [exec_of_kind_wait hk, runWait_of_not_armed ha]
  rfl

/-- Settles O25: an armed WAIT step is the armed branch of `runWait` with the operands of its row. -/
theorem waitPollTick : Obligations.WaitPollTick := by
  intro s i l hk ha
  rw [exec_of_kind_wait hk, runWait_of_armed ha]

end Sys2Proof.Machine
end

section
/-! The PAUSE step, DONE (42_wait_and_retain.md R145): its arm tick, its waiting ticks and its last tick, and the
run they make. -/

namespace Sys2Proof.Machine

theorem runPause_of_not_armed {s : State} (ha : s.armed = false) (w : Nat) (succeed : State → State) :
    runPause w succeed s = arm (startWT w s) := by
  simp [runPause, ha]

theorem runPause_of_not_expired {s : State} (ha : s.armed = true) (he : expired s.now s.wt = false) (w : Nat)
    (succeed : State → State) : runPause w succeed s = s := by
  simp [runPause, ha, he]

theorem runPause_of_expired {s : State} (ha : s.armed = true) (he : expired s.now s.wt = true) (w : Nat)
    (succeed : State → State) : runPause w succeed s = succeed s := by
  simp [runPause, ha, he]

theorem step_of_done {s : State} (hrst : s.pins.rst = false) (hd : s.stepReg = 15) :
    step s = .next (endTick (runPause s.config.params.tPause returnToIdle (beginTick s))) := by
  apply step_of_exec hrst
  rw [hd]
  exact exec_done (beginTick s)

theorem tPause_mem_durations (p : Params) : p.tPause ∈ p.durations := by
  simp [Params.durations]

/-- The block has been in DONE for `n` ticks of its pause, with the window `w` in `WT`; the attempt ended with
`r`. -/
structure Pausing (w : Nat) (r : Result) (n : Nat) (t : State) : Prop where
  window      : t.config.params.tPause = w
  stepReg     : t.stepReg = 15
  armed       : t.armed = true
  dur         : t.wt.dur = BitVec.ofNat 32 w
  elapsed     : (elapsed t.now t.wt).toNat = n
  rejectValid : t.rejectValid = false
  result      : t.result = r

/-- The pause is over exactly when the whole window has elapsed. -/
theorem Pausing.expired_iff {w n : Nat} {r : Result} {t : State} (h : Pausing w r n t) :
    expired t.now t.wt = true ↔ w ≤ n := by
  have hmem := tPause_mem_durations t.config.params
  rw [h.window] at hmem
  rw [expired_window_iff hmem h.dur, h.elapsed]

/-- The first tick of DONE starts the pause. -/
theorem step_starts_pause {s : State} (hrst : s.pins.rst = false) (hd : s.stepReg = 15) (ha : s.armed = false) :
    ∃ t, step s = .next t ∧ Pausing s.config.params.tPause s.result 1 t := by
  refine ⟨_, step_of_done hrst hd, ?_⟩
  rw [runPause_of_not_armed (by simpa using ha)]
  constructor
  case elapsed => exact congrArg BitVec.toNat (elapsed_start s.now _)
  all_goals simp [hd]

/-- Before the window has elapsed a tick of the pause only lets time pass. -/
theorem Pausing.step_of_lt {w n : Nat} {r : Result} {s : State} (h : Pausing w r n s) (hrst : s.pins.rst = false)
    (hn : n < w) : ∃ t, step s = .next t ∧ Pausing w r (n + 1) t := by
  have hnot : expired s.now s.wt = false := by
    rw [← Bool.not_eq_true, h.expired_iff]
    omega
  have hcount : (Machine.elapsed s.now s.wt).toNat < 2 ^ 32 - 1 := by
    have hlegal := s.config.duration_range (tPause_mem_durations s.config.params)
    rw [h.window] at hlegal
    rw [h.elapsed]
    omega
  refine ⟨_, step_of_done hrst h.stepReg, ?_⟩
  rw [runPause_of_not_expired (by simpa using h.armed) (by simpa using hnot)]
  constructor
  case elapsed => exact (elapsed_succ s.now s.wt hcount).trans (congrArg (· + 1) h.elapsed)
  all_goals simp [h.window, h.stepReg, h.armed, h.dur, h.result]

/-- Once the window has elapsed the tick returns to IDLE. -/
theorem Pausing.step_of_le {w n : Nat} {r : Result} {s : State} (h : Pausing w r n s) (hrst : s.pins.rst = false)
    (hn : w ≤ n) :
    ∃ t, step s = .next t ∧ t.stepReg = 0 ∧ t.armed = false ∧ t.rejectValid = false ∧ t.result = r := by
  refine ⟨_, step_of_done hrst h.stepReg, ?_⟩
  rw [runPause_of_expired (by simpa using h.armed) (by simpa using h.expired_iff.mpr hn)]
  simp [returnToIdle, encode, h.result]

/-- From its first tick, DONE is paused after each tick of its window. -/
theorem run_pausing {s : State} {n : Nat} (hd : s.stepReg = 15) (ha : s.armed = false)
    (hno : s.noReset (s.config.params.tPause + 1)) (h1 : 1 ≤ n) (hn : n ≤ s.config.params.tPause) :
    ∃ t, run n s = .next t ∧ Pausing s.config.params.tPause s.result n t := by
  induction n, h1 using Nat.le_induction with
  | base =>
    obtain ⟨t, hstep, ht⟩ := step_starts_pause (hno 0 (by omega)) hd ha
    exact ⟨t, (run_succ_of_run rfl).trans hstep, ht⟩
  | succ n _ ih =>
    obtain ⟨t, hrun, ht⟩ := ih (by omega)
    obtain ⟨u, hstep, hu⟩ := ht.step_of_lt (rst_after_run hno (by omega) hrun) (by omega)
    exact ⟨u, (run_succ_of_run hrun).trans hstep, hu⟩

/-- Settles O23: the pseudocode is `runPause`, and `W` ticks of `run_pausing` are followed by the return to IDLE. -/
theorem pauseLastsItsWindowPlusOne : Obligations.PauseLastsItsWindowPlusOne := by
  refine ⟨exec_done, fun s hd ha hno => ⟨fun n h1 hn => ?_, ?_⟩⟩
  · obtain ⟨t, hrun, ht⟩ := run_pausing hd ha hno h1 hn
    exact ⟨t, hrun, ht.stepReg, ht.armed, ht.rejectValid, ht.result⟩
  · have hwindow := s.config.duration_range (tPause_mem_durations s.config.params)
    obtain ⟨t, hrun, ht⟩ := run_pausing hd ha hno hwindow.1 (Nat.le_refl _)
    obtain ⟨u, hstep, hu⟩ := ht.step_of_le (rst_after_run hno (by omega) hrun) (Nat.le_refl _)
    exact ⟨u, (run_succ_of_run hrun).trans hstep, hu⟩

end Sys2Proof.Machine
end

section
/-! The integrity check (45_integrity_and_frame_loop.md R210): its equivalent forms, each derived from the bitwise
complement, and the fields of a word as the low 8 bits of a shift (30_encoding.md R81). -/

namespace Sys2Proof.Machine

theorem checkIntegrity_iff_xor (v vInv : Byte) : checkIntegrity v vInv = true ↔ v ^^^ vInv = 0xFF#8 := by
  simp [checkIntegrity]

/-- `v ^ ~v` is `0xFF`, and `v ^ ·` is injective. -/
theorem checkIntegrity_iff_eq_not (v vInv : Byte) : checkIntegrity v vInv = true ↔ vInv = ~~~v := by
  have hself : v ^^^ ~~~v = 0xFF#8 := by
    rw [← BitVec.xor_allOnes, ← BitVec.xor_assoc, BitVec.xor_self, BitVec.zero_xor]
    rfl
  rw [checkIntegrity_iff_xor, ← hself, BitVec.xor_right_inj]

/-- The complement of `v` is `255 - v` as a number. -/
theorem checkIntegrity_iff_add (v vInv : Byte) :
    checkIntegrity v vInv = true ↔ v.toNat + vInv.toNat = 255 := by
  rw [checkIntegrity_iff_eq_not, ← BitVec.toNat_inj, BitVec.toNat_not]
  have := v.isLt
  omega

/-- Bit `j` of the complement is the negation of bit `j`. -/
theorem checkIntegrity_iff_bits (v vInv : Byte) :
    checkIntegrity v vInv = true ↔ ∀ j, j < 8 → v.getLsbD j ≠ vInv.getLsbD j := by
  rw [checkIntegrity_iff_eq_not, BitVec.eq_of_getLsbD_eq_iff]
  refine forall₂_congr fun j hj => ?_
  rw [BitVec.getLsbD_not, decide_eq_true hj, Bool.true_and, Bool.eq_not, ne_comm]

theorem addressField_eq_shift (raw : Word) : addressField raw = (raw >>> 24).setWidth 8 :=
  BitVec.setWidth_ushiftRight_eq_extractLsb.symm

theorem addressInvField_eq_shift (raw : Word) : addressInvField raw = (raw >>> 16).setWidth 8 :=
  BitVec.setWidth_ushiftRight_eq_extractLsb.symm

theorem dataField_eq_shift (raw : Word) : dataField raw = (raw >>> 8).setWidth 8 :=
  BitVec.setWidth_ushiftRight_eq_extractLsb.symm

theorem dataInvField_eq_setWidth (raw : Word) : dataInvField raw = raw.setWidth 8 :=
  (BitVec.setWidth_eq_extractLsb' (by decide)).symm

/-- The two checks of R211 on the shifted word, as the source writes them. -/
theorem frameOk_eq_shifts (raw : Word) : frameOk raw =
    (checkIntegrity ((raw >>> 24).setWidth 8) ((raw >>> 16).setWidth 8) &&
      checkIntegrity ((raw >>> 8).setWidth 8) (raw.setWidth 8)) := by
  rw [frameOk, addressField_eq_shift, addressInvField_eq_shift, dataField_eq_shift, dataInvField_eq_setWidth]

/-- Settles O11: every form is the bitwise complement, `checkIntegrity_iff_eq_not`; the mask `0xFF` keeps all 8
bits of a byte, and the examples are evaluated. -/
theorem integrityIsBitwiseComplement : Obligations.IntegrityIsBitwiseComplement := by
  refine ⟨fun v vInv => ⟨checkIntegrity_iff_xor v vInv, ?_, checkIntegrity_iff_add v vInv,
    checkIntegrity_iff_bits v vInv⟩, frameOk_eq_shifts, by decide, by decide⟩
  have hmask : ~~~v &&& 0xFF#8 = ~~~v := BitVec.and_allOnes
  rw [hmask]
  exact checkIntegrity_iff_eq_not v vInv

end Sys2Proof.Machine
end

section
/-! The failure entry (60_exceptions.md R250, R251): the DONE tick that follows it, and what a failing step of the
leading-burst check writes instead (R245). -/

namespace Sys2Proof.Machine

/-- The first tick of DONE starts the pause timer and, as every tick does, ends the pulses. -/
theorem step_of_done_not_armed {s : State} (hrst : s.pins.rst = false) (hd : s.stepReg = 15)
    (ha : s.armed = false) :
    step s = .next (endTick (arm (startWT s.config.params.tPause (beginTick s)))) := by
  rw [step_of_done hrst hd, runPause_of_not_armed (by simpa using ha)]

/-- The tick after a failure entry arms DONE and ends the `reject_valid` pulse. -/
theorem step_after_raise (f : Failure) {s : State} (hrst : (s.pinsAt 1).rst = false) :
    ∃ t, step (endTick (raise f s)) = .next t ∧ t.stepReg = 15 ∧ t.rejectValid = false ∧
      t.wt = ⟨s.now + 1, BitVec.ofNat 32 s.config.params.tPause⟩ := by
  have hpins : (endTick (raise f s)).pins.rst = false := by
    rw [State.pins, pinsAt_endTick]
    exact hrst
  exact ⟨_, step_of_done_not_armed hpins rfl rfl, rfl, rfl, rfl⟩

/-- If `t` is in IDLE, it differs from `s` in `step`, `armed`, `WT` and the poll pulse at most. -/
def IdleOnlyByGoto (s t : State) : Prop :=
  t.stepReg = 0 → t = { s with wt := t.wt, dbgPollTick := t.dbgPollTick, stepReg := 0, armed := false }

/-- A state outside IDLE satisfies `IdleOnlyByGoto`, whatever it holds. -/
theorem IdleOnlyByGoto.of_stepReg_ne_zero {s t : State} (h : t.stepReg ≠ 0) : IdleOnlyByGoto s t :=
  fun h0 => absurd h0 h

theorem stepReg_ne_zero_of_decode {s : State} {i : Instr} (hd : decode s.stepReg = i) (hi : i ≠ .idle) :
    s.stepReg ≠ 0 := by
  intro h0
  rw [h0] at hd
  exact hi hd.symm

/-- A WAIT outside IDLE that fails by `goto IDLE` reaches IDLE only that way. -/
theorem runWait_idleOnlyByGoto {s : State} {j : Instr} (hs : s.stepReg ≠ 0) (hj : encode j ≠ 0)
    (l : DefiniteLevel) (w : Nat) : IdleOnlyByGoto s (runWait l w (goto j) (goto .idle) s) := by
  apply runWait_induct (P := IdleOnlyByGoto s)
  case hs => exact .of_stepReg_ne_zero hj
  case hf | hfa => exact fun _ => rfl
  case hk | ha => exact .of_stepReg_ne_zero hs

/-- A RETAIN outside IDLE that fails by `goto IDLE` reaches IDLE only that way. -/
theorem runRetain_idleOnlyByGoto {s : State} {j : Instr} (hs : s.stepReg ≠ 0) (hj : encode j ≠ 0)
    (l : DefiniteLevel) (w : Nat) : IdleOnlyByGoto s (runRetain l w (goto j) (goto .idle) s) := by
  apply runRetain_induct (P := IdleOnlyByGoto s)
  case hs => exact .of_stepReg_ne_zero hj
  case hf | hfa => exact fun _ => rfl
  case hk | ha => exact .of_stepReg_ne_zero hs

/-- The four steps of the leading-burst check reach IDLE only by `goto IDLE` (60_exceptions.md R245). -/
theorem exec_leadingBurst_idleOnlyByGoto {s t : State} {i : Instr}
    (hi : i ∈ [Instr.lbWaitMark, .lbRetMark, .lbWaitSpace, .lbRetSpace]) (hs : s.stepReg ≠ 0)
    (h : exec i s = .next t) : IdleOnlyByGoto s t := by
  simp only [List.mem_cons, List.not_mem_nil, or_false] at hi
  rcases hi with rfl | rfl | rfl | rfl <;> injection h with h <;> subst h
  · exact runWait_idleOnlyByGoto hs (by decide) _ _
  · exact runRetain_idleOnlyByGoto hs (by decide) _ _
  · exact runWait_idleOnlyByGoto hs (by decide) _ _
  · exact runRetain_idleOnlyByGoto hs (by decide) _ _

/-- Settles O13: the entry's writes and codes are those of `raise` and `Result.code`; the tick after it is
`step_after_raise`, and a failing LB step is `exec_leadingBurst_idleOnlyByGoto`, IDLE being none of the four. -/
theorem failureEntryWrites : Obligations.FailureEntryWrites := by
  refine ⟨fun f s => rfl, ⟨rfl, rfl, rfl⟩, fun f s hrst => step_after_raise f hrst,
    fun s t i hi hd hx => exec_leadingBurst_idleOnlyByGoto hi ?_ hx⟩
  refine stepReg_ne_zero_of_decode hd ?_
  rintro rfl
  exact absurd hi (by decide)

end Sys2Proof.Machine
end

section
/-! Codes and steps are one to one (30_encoding.md R88, 10_state.md R22). -/

namespace Sys2Proof

@[simp] theorem decode_encode (i : Instr) : decode (encode i) = i := by
  cases i <;> rfl

@[simp] theorem encode_decode (c : BitVec 4) : encode (decode c) = c := by
  revert c
  decide

theorem decode_eq_iff {c : BitVec 4} {i : Instr} : decode c = i ↔ c = encode i :=
  ⟨fun h => h ▸ (encode_decode c).symm, fun h => h ▸ decode_encode i⟩

theorem encode_injective : Function.Injective encode :=
  Function.LeftInverse.injective decode_encode

/-- A step code is read from the low 4 bits of a table word of any width. -/
theorem decodeTableWord_encode (i : Instr) {nbits : Nat} (high : Nat) (h : 4 ≤ nbits) :
    decodeTableWord nbits (16 * high + (encode i).toNat) = some i := by
  have hlow : BitVec.ofNat 4 (16 * high + (encode i).toNat) = encode i := by
    apply BitVec.eq_of_toNat_eq
    have := (encode i).isLt
    rw [BitVec.toNat_ofNat]
    omega
  simp [decodeTableWord, decodeWord, hlow, Nat.not_lt.mpr h]

/-- Settles O1: the sixteen codes are evaluated. -/
theorem stepCodesReadAsTheTableSays : Obligations.StepCodesReadAsTheTableSays := by
  unfold Obligations.StepCodesReadAsTheTableSays
  decide

/-- Settles O2: `decode` and `encode` are inverse case by case, and a table word is read modulo 16. -/
theorem codesAndStepsAreOneToOne : Obligations.CodesAndStepsAreOneToOne :=
  ⟨decode_encode, encode_decode, fun i _ high h => decodeTableWord_encode i high h⟩

end Sys2Proof
end

section
/-! The steps that last several ticks, whatever their kind (42_wait_and_retain.md R137 to R145): each is the operation
of its kind with the operands of its row, and every tick of one stays, arms, succeeds or fails. -/

namespace Sys2Proof.Machine

/-- What the first tick of the step `i` writes whatever the sample: its window is started, and a WAIT gives the poll
pulse (42_wait_and_retain.md R140, R143, R145). -/
def startWindow (i : Instr) (s : State) : State :=
  match (stepTable s.config.params i).kind with
  | .wait _ => emitPollTick (startWT (stepTable s.config.params i).window s)
  | _ => startWT (stepTable s.config.params i).window s

/-- A RETAIN step is `runRetain` with the operands of its row. -/
theorem exec_of_kind_retain {s : State} {i : Instr} {l : DefiniteLevel}
    (hk : (stepTable s.config.params i).kind = .retain l) :
    exec i s = .next (runRetain l (stepTable s.config.params i).window (succeedState i) (failState i) s) := by
  cases i <;> cases hk
  case lbRetMark => exact exec_lbRetMark s
  case lbRetSpace => exact exec_lbRetSpace s
  case brRetMark => exact exec_brRetMark s
  case brRetSpace => exact exec_brRetSpace s
  case zRetSpace => exact exec_zRetSpace s

/-- The PAUSE step is `runPause` with the operands of its row. -/
theorem exec_of_kind_pause {s : State} {i : Instr} (hk : (stepTable s.config.params i).kind = .pause) :
    exec i s = .next (runPause (stepTable s.config.params i).window (succeedState i) s) := by
  cases i <;> cases hk
  exact exec_done s

/-- The four CTRL steps of the table. -/
theorem kind_eq_ctrl {p : Params} {i : Instr} :
    (stepTable p i).kind = .ctrl ↔ i = .idle ∨ i = .decInit ∨ i = .bitHead ∨ i = .check := by
  cases i <;> simp [stepTable]

/-- Every WAIT and every RETAIN can fail (30_encoding.md R88). -/
theorem onFailure_of_wait {p : Params} {i : Instr} {l : DefiniteLevel} (hk : (stepTable p i).kind = .wait l) :
    (stepTable p i).onFailure ≠ .cannotFail := by
  cases i <;> cases hk <;> simp [stepTable]

theorem onFailure_of_retain {p : Params} {i : Instr} {l : DefiniteLevel} (hk : (stepTable p i).kind = .retain l) :
    (stepTable p i).onFailure ≠ .cannotFail := by
  cases i <;> cases hk <;> simp [stepTable]

/-- Everything a tick of the step `i`, which lasts several ticks, can do to `s`. -/
inductive TimedTick (i : Instr) (s : State) : State → Prop where
  | stays : s.armed = true → expired s.now s.wt = false → TimedTick i s s
  | arms : s.armed = false → TimedTick i s (arm (startWindow i s))
  | succeeds : s.armed = true → TimedTick i s (succeedState i s)
  | fails : s.armed = true → (stepTable s.config.params i).onFailure ≠ .cannotFail →
      TimedTick i s (failState i s)
  | failsAtOnce : s.armed = false → (stepTable s.config.params i).onFailure ≠ .cannotFail →
      TimedTick i s (failState i (startWindow i s))

theorem runWait_timedTick {s : State} {i : Instr} {l : DefiniteLevel}
    (hk : (stepTable s.config.params i).kind = .wait l) :
    TimedTick i s (runWait l (stepTable s.config.params i).window (succeedState i) (failState i) s) := by
  have hi := onFailure_of_wait hk
  have hstart : startWindow i s = emitPollTick (startWT (stepTable s.config.params i).window s) := by
    simp [startWindow, hk]
  rcases runWait_cases l (stepTable s.config.params i).window (succeedState i) (failState i) s with
    ⟨ha, _, h⟩ | ⟨ha, _, _, h⟩ | ⟨ha, _, he, h⟩ | ⟨ha, _, h⟩ | ⟨ha, _, h⟩ <;> rw [h]
  · exact .succeeds ha
  · exact .fails ha hi
  · exact .stays ha he
  · exact hstart ▸ .arms ha
  · exact hstart ▸ .failsAtOnce ha hi

theorem runRetain_timedTick {s : State} {i : Instr} {l : DefiniteLevel}
    (hk : (stepTable s.config.params i).kind = .retain l) :
    TimedTick i s (runRetain l (stepTable s.config.params i).window (succeedState i) (failState i) s) := by
  have hi := onFailure_of_retain hk
  have hstart : startWindow i s = startWT (stepTable s.config.params i).window s := by
    simp [startWindow, hk]
  rcases runRetain_cases l (stepTable s.config.params i).window (succeedState i) (failState i) s with
    ⟨ha, _, h⟩ | ⟨ha, _, _, h⟩ | ⟨ha, he, _, h⟩ | ⟨ha, _, h⟩ | ⟨ha, _, h⟩ <;> rw [h]
  · exact .succeeds ha
  · exact .fails ha hi
  · exact .stays ha he
  · exact hstart ▸ .failsAtOnce ha hi
  · exact hstart ▸ .arms ha

theorem runPause_timedTick {s : State} {i : Instr} (hk : (stepTable s.config.params i).kind = .pause) :
    TimedTick i s (runPause (stepTable s.config.params i).window (succeedState i) s) := by
  have hstart : startWindow i s = startWT (stepTable s.config.params i).window s := by
    simp [startWindow, hk]
  rcases runPause_cases (stepTable s.config.params i).window (succeedState i) s with
    ⟨ha, _, h⟩ | ⟨ha, he, h⟩ | ⟨ha, h⟩ <;> rw [h]
  · exact .succeeds ha
  · exact .stays ha he
  · exact hstart ▸ .arms ha

/-- The inversion lemma of the WAIT, RETAIN and PAUSE steps. -/
theorem timedTick_of_exec {s u : State} {i : Instr} (hk : (stepTable s.config.params i).kind ≠ .ctrl)
    (h : exec i s = .next u) : TimedTick i s u := by
  cases hkind : (stepTable s.config.params i).kind with
  | wait l =>
    rw [exec_of_kind_wait hkind] at h
    injection h with h
    exact h ▸ runWait_timedTick hkind
  | retain l =>
    rw [exec_of_kind_retain hkind] at h
    injection h with h
    exact h ▸ runRetain_timedTick hkind
  | pause =>
    rw [exec_of_kind_pause hkind] at h
    injection h with h
    exact h ▸ runPause_timedTick hkind
  | ctrl => exact absurd hkind hk

/-- Settles O26: a RETAIN step is `runRetain` with the operands of its row. -/
theorem retainTicks : Obligations.RetainTicks := by
  intro s i l hk
  rw [exec_of_kind_retain hk]
  rfl

end Sys2Proof.Machine
end

section
/-! What the outcomes of a step do to each field of State: one lemma per field per outcome, as for the shared
updates. -/

namespace Sys2Proof.Machine

variable (i : Instr) (s : State)

/-! ### startWindow -/

@[simp] theorem startWindow_config : (startWindow i s).config = s.config := by unfold startWindow; split <;> rfl
@[simp] theorem startWindow_waveform : (startWindow i s).waveform = s.waveform := by unfold startWindow; split <;> rfl
@[simp] theorem startWindow_ticks : (startWindow i s).ticks = s.ticks := by unfold startWindow; split <;> rfl
@[simp] theorem startWindow_stepReg : (startWindow i s).stepReg = s.stepReg := by unfold startWindow; split <;> rfl
@[simp] theorem startWindow_armed : (startWindow i s).armed = s.armed := by unfold startWindow; split <;> rfl
@[simp] theorem startWindow_now : (startWindow i s).now = s.now := by unfold startWindow; split <;> rfl
@[simp] theorem startWindow_wt :
    (startWindow i s).wt = ⟨s.now, BitVec.ofNat 32 (stepTable s.config.params i).window⟩ := by
  unfold startWindow; split <;> rfl
@[simp] theorem startWindow_ft : (startWindow i s).ft = s.ft := by unfold startWindow; split <;> rfl
@[simp] theorem startWindow_raw : (startWindow i s).raw = s.raw := by unfold startWindow; split <;> rfl
@[simp] theorem startWindow_idx : (startWindow i s).idx = s.idx := by unfold startWindow; split <;> rfl
@[simp] theorem startWindow_address : (startWindow i s).address = s.address := by unfold startWindow; split <;> rfl
@[simp] theorem startWindow_data : (startWindow i s).data = s.data := by unfold startWindow; split <;> rfl
@[simp] theorem startWindow_result : (startWindow i s).result = s.result := by unfold startWindow; split <;> rfl
@[simp] theorem startWindow_frameValid : (startWindow i s).frameValid = s.frameValid := by
  unfold startWindow; split <;> rfl
@[simp] theorem startWindow_rejectValid : (startWindow i s).rejectValid = s.rejectValid := by
  unfold startWindow; split <;> rfl
@[simp] theorem startWindow_dbgBitTick : (startWindow i s).dbgBitTick = s.dbgBitTick := by
  unfold startWindow; split <;> rfl

/-- Only the first tick of a WAIT gives the poll pulse (42_wait_and_retain.md R140). -/
theorem startWindow_dbgPollTick (h : s.dbgPollTick = false) :
    (startWindow i s).dbgPollTick = true ↔ ∃ l, (stepTable s.config.params i).kind = .wait l := by
  unfold startWindow
  split <;> simp_all

/-! ### succeedState: BIT_WAIT_MARK classifies a 1, any other step does `goto` its first successor -/

@[simp] theorem succeedState_config : (succeedState i s).config = s.config := by cases i <;> rfl
@[simp] theorem succeedState_waveform : (succeedState i s).waveform = s.waveform := by cases i <;> rfl
@[simp] theorem succeedState_ticks : (succeedState i s).ticks = s.ticks := by cases i <;> rfl
@[simp] theorem succeedState_now : (succeedState i s).now = s.now := by cases i <;> rfl
@[simp] theorem succeedState_wt : (succeedState i s).wt = s.wt := by cases i <;> rfl
@[simp] theorem succeedState_ft : (succeedState i s).ft = s.ft := by cases i <;> rfl
@[simp] theorem succeedState_address : (succeedState i s).address = s.address := by cases i <;> rfl
@[simp] theorem succeedState_data : (succeedState i s).data = s.data := by cases i <;> rfl
@[simp] theorem succeedState_result : (succeedState i s).result = s.result := by cases i <;> rfl
@[simp] theorem succeedState_frameValid : (succeedState i s).frameValid = s.frameValid := by cases i <;> rfl
@[simp] theorem succeedState_rejectValid : (succeedState i s).rejectValid = s.rejectValid := by cases i <;> rfl
@[simp] theorem succeedState_dbgPollTick : (succeedState i s).dbgPollTick = s.dbgPollTick := by cases i <;> rfl
@[simp] theorem succeedState_armed : (succeedState i s).armed = false := by cases i <;> rfl
theorem succeedState_raw :
    (succeedState i s).raw = if i = .bitWaitMark then s.raw ||| (1#32 <<< (s.idx.toNat % 32)) else s.raw := by
  cases i <;> rfl
theorem succeedState_idx : (succeedState i s).idx = if i = .bitWaitMark then s.idx - 1 else s.idx := by
  cases i <;> rfl
theorem succeedState_dbgBitTick :
    (succeedState i s).dbgBitTick = if i = .bitWaitMark then true else s.dbgBitTick := by
  cases i <;> rfl
theorem succeedState_target : decode (succeedState i s).stepReg ∈ (stepTable s.config.params i).onSuccess := by
  cases i <;> simp [succeedState, stepTable]

/-! ### failState: BIT_WAIT_MARK classifies a 0, any other step does `goto` or raises a failure -/

@[simp] theorem failState_config : (failState i s).config = s.config := by cases i <;> rfl
@[simp] theorem failState_waveform : (failState i s).waveform = s.waveform := by cases i <;> rfl
@[simp] theorem failState_ticks : (failState i s).ticks = s.ticks := by cases i <;> rfl
@[simp] theorem failState_now : (failState i s).now = s.now := by cases i <;> rfl
@[simp] theorem failState_wt : (failState i s).wt = s.wt := by cases i <;> rfl
@[simp] theorem failState_ft : (failState i s).ft = s.ft := by cases i <;> rfl
@[simp] theorem failState_raw : (failState i s).raw = s.raw := by cases i <;> rfl
@[simp] theorem failState_address : (failState i s).address = s.address := by cases i <;> rfl
@[simp] theorem failState_data : (failState i s).data = s.data := by cases i <;> rfl
@[simp] theorem failState_frameValid : (failState i s).frameValid = s.frameValid := by cases i <;> rfl
@[simp] theorem failState_dbgPollTick : (failState i s).dbgPollTick = s.dbgPollTick := by cases i <;> rfl
theorem failState_idx : (failState i s).idx = if i = .bitWaitMark then s.idx - 1 else s.idx := by
  cases i <;> rfl
theorem failState_dbgBitTick :
    (failState i s).dbgBitTick = if i = .bitWaitMark then true else s.dbgBitTick := by
  cases i <;> rfl

variable {i s}

theorem failState_armed (h : (stepTable s.config.params i).onFailure ≠ .cannotFail) :
    (failState i s).armed = false := by
  cases i <;> simp_all [failState, stepTable]
theorem failState_target (h : (stepTable s.config.params i).onFailure ≠ .cannotFail) :
    decode (failState i s).stepReg ∈ (stepTable s.config.params i).onFailure.targets := by
  cases i <;> simp_all [failState, stepTable, FailureExit.targets]

/-- A failure that is not reported changes the step alone, but for the bit BIT_WAIT_MARK counts. -/
theorem failState_of_goto {j : Instr} (h : (stepTable s.config.params i).onFailure = .goto j) :
    (failState i s).stepReg = encode j ∧ (failState i s).result = s.result ∧
      (failState i s).rejectValid = s.rejectValid := by
  cases i <;> cases h <;> exact ⟨rfl, rfl, rfl⟩

/-- A failure that is raised is the failure entry (60_exceptions.md R250). -/
theorem failState_of_raise {f : Failure} (h : (stepTable s.config.params i).onFailure = .raise f) :
    failState i s = raise f s := by
  cases i <;> cases h <;> rfl

end Sys2Proof.Machine
end

section
/-! What a tick with `rst` 0 can do, said once (42_wait_and_retain.md R135): the rule of a CTRL step, or of a step
that lasts several ticks, between `beginTick` and `endTick`. -/

namespace Sys2Proof.Machine

/-- Everything a CTRL step can do to `s` (42_wait_and_retain.md R146). -/
inductive CtrlTick (s : State) : Instr → State → Prop where
  | idle : CtrlTick s .idle (goto .lbWaitMark s)
  | decInit : CtrlTick s .decInit (goto .fbWaitMark { startFT s.config.params.tFrame s with raw := 0, idx := 31 })
  | complete : allBitsAssembled s.idx = true → CtrlTick s .bitHead (goto .check s)
  | deadline : allBitsAssembled s.idx = false → expired s.now s.ft = true →
      CtrlTick s .bitHead (raise .deadlineExhaustion s)
  | nextBit : allBitsAssembled s.idx = false → expired s.now s.ft = false →
      CtrlTick s .bitHead (goto .bitWaitMark s)
  | accepts : frameOk s.raw = true → CtrlTick s .check (accept s)
  | rejects : frameOk s.raw = false → CtrlTick s .check (raise .integrity s)

/-- The inversion lemma of the CTRL steps. -/
theorem ctrlTick_of_exec {s u : State} {i : Instr} (hk : (stepTable s.config.params i).kind = .ctrl)
    (h : exec i s = .next u) : CtrlTick s i u := by
  rcases kind_eq_ctrl.mp hk with rfl | rfl | rfl | rfl <;> injection h with h <;> subst h
  case inl => exact .idle
  case inr.inl => exact .decInit
  case inr.inr.inl =>
    cases hall : allBitsAssembled s.idx with
    | true => exact .complete hall
    | false =>
      cases hexp : expired s.now s.ft with
      | true => exact .deadline hall hexp
      | false => exact .nextBit hall hexp
  case inr.inr.inr =>
    cases hok : frameOk s.raw with
    | true => exact .accepts hok
    | false => exact .rejects hok

/-- A tick with `rst` 0 is the rule of its step; the converse of `step_of_exec`. -/
theorem exec_of_step {s t : State} (hrst : s.pins.rst = false) (h : step s = .next t) :
    ∃ u, exec (decode s.stepReg) (beginTick s) = .next u ∧ t = endTick u := by
  rcases step_cases h with ⟨hr, _⟩ | ⟨_, hu⟩
  · rw [hrst] at hr
    cases hr
  · exact hu

/-- The inversion lemma of a tick with `rst` 0. -/
theorem tick_cases {s t : State} (hrst : s.pins.rst = false) (h : step s = .next t) :
    ∃ u, t = endTick u ∧
      ((s.row.kind = .ctrl ∧ CtrlTick (beginTick s) (decode s.stepReg) u) ∨
        (s.row.kind ≠ .ctrl ∧ TimedTick (decode s.stepReg) (beginTick s) u)) := by
  obtain ⟨u, hx, rfl⟩ := exec_of_step hrst h
  refine ⟨u, rfl, ?_⟩
  by_cases hk : s.row.kind = .ctrl
  · exact .inl ⟨hk, ctrlTick_of_exec hk hx⟩
  · exact .inr ⟨hk, timedTick_of_exec hk hx⟩

/-- Every tick has a next state (42_wait_and_retain.md R147). -/
theorem step_total (s : State) : ∃ t, step s = .next t := by
  cases hrst : s.pins.rst with
  | true => exact ⟨resetTick s, by simp [step, hrst]⟩
  | false =>
    obtain ⟨u, hu⟩ := exec_total (decode s.stepReg) (beginTick s)
    exact ⟨endTick u, step_of_exec hrst hu⟩

end Sys2Proof.Machine
end

section
/-! Changes of the state that a tick carries along: a map that keeps all a step rule tests and commutes with all it
writes commutes with the rule. Moving absolute time (10_state.md R24) and exchanging the input (40_level_sampler.md
R114) are two such maps. -/

namespace Sys2Proof.Machine

/-- `f` keeps what the step rules test in `s`, but for the level, and commutes with what they write. -/
structure CarriedAlong (f : State → State) (s : State) : Prop where
  config : (f s).config = s.config
  armed : (f s).armed = s.armed
  raw : (f s).raw = s.raw
  idx : (f s).idx = s.idx
  expiredWT : expired (f s).now (f s).wt = expired s.now s.wt
  expiredFT : expired (f s).now (f s).ft = expired s.now s.ft
  goto : ∀ i v, goto i (f v) = f (goto i v)
  arm : ∀ v, arm (f v) = f (arm v)
  startWT : ∀ w v, startWT w (f v) = f (startWT w v)
  startFT : ∀ d v, startFT d (f v) = f (startFT d v)
  emitPollTick : ∀ v, emitPollTick (f v) = f (emitPollTick v)
  clear : ∀ v : State, { f v with raw := 0, idx := 31 } = f { v with raw := 0, idx := 31 }
  raise : ∀ c v, raise c (f v) = f (raise c v)
  accept : ∀ v, accept (f v) = f (accept v)
  succeed : ∀ i v, succeedState i (f v) = f (succeedState i v)
  fail : ∀ i v, failState i (f v) = f (failState i v)

/-- The level plays no part in this tick of the step `i`: it is CTRL or PAUSE, or a RETAIN whose window is over
(42_wait_and_retain.md R143, R145, R146). -/
def LevelUnused (i : Instr) (s : State) : Prop :=
  (stepTable s.config.params i).kind = .ctrl ∨ (stepTable s.config.params i).kind = .pause ∨
    (s.armed = true ∧ expired s.now s.wt = true ∧ ∃ l, (stepTable s.config.params i).kind = .retain l)

namespace CarriedAlong

variable {f : State → State} {s : State} (h : CarriedAlong f s)
include h

theorem runWait (hlevel : (f s).level = s.level) (l : DefiniteLevel) (w : Nat) (i : Instr) :
    runWait l w (succeedState i) (failState i) (f s) = f (runWait l w (succeedState i) (failState i) s) := by
  simp only [Machine.runWait, h.armed, hlevel, h.expiredWT, h.startWT, h.emitPollTick, h.arm, h.succeed, h.fail,
    apply_ite f]

theorem runRetain (hlevel : (f s).level = s.level ∨ (s.armed = true ∧ expired s.now s.wt = true))
    (l : DefiniteLevel) (w : Nat) (i : Instr) :
    runRetain l w (succeedState i) (failState i) (f s) = f (runRetain l w (succeedState i) (failState i) s) := by
  simp only [Machine.runRetain, h.armed, h.expiredWT, h.startWT, h.arm, h.succeed, h.fail]
  rcases hlevel with hlevel | ⟨ha, he⟩
  · simp only [hlevel, apply_ite f]
  · simp only [ha, he, if_true]

theorem runPause (w : Nat) (i : Instr) :
    runPause w (succeedState i) (f s) = f (runPause w (succeedState i) s) := by
  simp only [Machine.runPause, h.armed, h.expiredWT, h.startWT, h.arm, h.succeed, apply_ite f]

theorem exec_ctrl {i : Instr} (hk : (stepTable s.config.params i).kind = .ctrl) {u : State}
    (hx : exec i s = .next u) : exec i (f s) = .next (f u) := by
  rcases kind_eq_ctrl.mp hk with rfl | rfl | rfl | rfl <;> injection hx with hx <;> subst hx
  · rw [exec_idle, h.goto]
  · rw [exec_decInit, h.config, h.startFT, h.clear, h.goto]
  · simp only [exec_bitHead, h.idx, h.expiredFT, h.goto, h.raise, apply_ite f]
  · simp only [exec_check, h.raw, h.accept, h.raise, apply_ite f]

/-- The rule of every step commutes with `f`, where `f` keeps the level or the rule does not use it. -/
theorem exec {i : Instr} (hlevel : (f s).level = s.level ∨ LevelUnused i s) {u : State}
    (hx : exec i s = .next u) : Machine.exec i (f s) = .next (f u) := by
  have hrow : stepTable (f s).config.params i = stepTable s.config.params i := by rw [h.config]
  cases hk : (stepTable s.config.params i).kind with
  | ctrl => exact h.exec_ctrl hk hx
  | wait l =>
    have hlevel : (f s).level = s.level := by simpa [LevelUnused, hk] using hlevel
    rw [exec_of_kind_wait hk] at hx
    injection hx with hx
    rw [exec_of_kind_wait (hrow ▸ hk), hrow, h.runWait hlevel, hx]
  | retain l =>
    have hlevel : (f s).level = s.level ∨ (s.armed = true ∧ expired s.now s.wt = true) := by
      simpa [LevelUnused, hk] using hlevel
    rw [exec_of_kind_retain hk] at hx
    injection hx with hx
    rw [exec_of_kind_retain (hrow ▸ hk), hrow, h.runRetain hlevel, hx]
  | pause =>
    rw [exec_of_kind_pause hk] at hx
    injection hx with hx
    rw [exec_of_kind_pause (hrow ▸ hk), hrow, h.runPause, hx]

end CarriedAlong

theorem elapsed_shift (now d : Word) (t : Timer) : elapsed (now + d) ⟨t.start + d, t.dur⟩ = elapsed now t := by
  unfold elapsed
  bv_omega

theorem expired_shift (now d : Word) (t : Timer) : expired (now + d) ⟨t.start + d, t.dur⟩ = expired now t := by
  simp only [expired, elapsed_shift]

theorem carriedAlong_shiftTime (d : Word) (s : State) : CarriedAlong (shiftTime d) s where
  config := rfl
  armed := rfl
  raw := rfl
  idx := rfl
  expiredWT := expired_shift s.now d s.wt
  expiredFT := expired_shift s.now d s.ft
  goto _ _ := rfl
  arm _ := rfl
  startWT _ _ := rfl
  startFT _ _ := rfl
  emitPollTick _ := rfl
  clear _ := rfl
  raise _ _ := rfl
  accept _ := rfl
  succeed i _ := by cases i <;> rfl
  fail i _ := by cases i <;> rfl

theorem endTick_shiftTime (d : Word) (u : State) : endTick (shiftTime d u) = shiftTime d (endTick u) := by
  simp only [endTick, shiftTime, add_right_comm]

/-- Settles O37: the rules see time only through `expired`, which does not change when `now` and the start move
together. -/
theorem absoluteTimeDoesNotMatter : Obligations.AbsoluteTimeDoesNotMatter := by
  intro s t d hrst h
  obtain ⟨u, hx, rfl⟩ := exec_of_step hrst h
  rw [← endTick_shiftTime]
  exact step_of_exec (s := shiftTime d s) hrst ((carriedAlong_shiftTime d (beginTick s)).exec (.inl rfl) hx)

/-- The same state with other input to come. -/
def withWaveform (w : List PinInput) (s : State) : State := { s with waveform := w }

theorem carriedAlong_withWaveform (w : List PinInput) (s : State) : CarriedAlong (withWaveform w) s where
  config := rfl
  armed := rfl
  raw := rfl
  idx := rfl
  expiredWT := rfl
  expiredFT := rfl
  goto _ _ := rfl
  arm _ := rfl
  startWT _ _ := rfl
  startFT _ _ := rfl
  emitPollTick _ := rfl
  clear _ := rfl
  raise _ _ := rfl
  accept _ := rfl
  succeed i _ := by cases i <;> rfl
  fail i _ := by cases i <;> rfl

/-- Two inputs that differ in the sample of this tick alone give the same next state, if the sample's level is the
same or plays no part. -/
theorem step_withWaveform_eq {s : State} {a b : Reading} (rst : Bool) (later : List PinInput)
    (h : levelOf s.config (readingOf s.config a) = levelOf s.config (readingOf s.config b) ∨
      LevelUnused (decode s.stepReg) s) :
    step (withWaveform (⟨rst, a⟩ :: later) s) = step (withWaveform (⟨rst, b⟩ :: later) s) := by
  obtain ⟨t, ht⟩ := step_total (withWaveform (⟨rst, a⟩ :: later) s)
  rw [ht]
  cases rst with
  | true =>
    rcases step_cases ht with ⟨_, rfl⟩ | ⟨hrst, _⟩
    · rfl
    · cases hrst
  | false =>
    obtain ⟨u, hx, rfl⟩ := exec_of_step rfl ht
    have hlevel : (withWaveform (⟨false, b⟩ :: later) (beginTick (withWaveform (⟨false, a⟩ :: later) s))).level =
          (beginTick (withWaveform (⟨false, a⟩ :: later) s)).level ∨
        LevelUnused (decode s.stepReg) (beginTick (withWaveform (⟨false, a⟩ :: later) s)) :=
      h.imp_left Eq.symm
    have hxb := (carriedAlong_withWaveform (⟨false, b⟩ :: later) _).exec hlevel hx
    have hwave : u.waveform = ⟨false, a⟩ :: later := (exec_frame hx).2.1
    have hend : endTick (withWaveform (⟨false, b⟩ :: later) u) = endTick u := by
      simp [endTick, withWaveform, hwave]
    exact (hend ▸ step_of_exec (s := withWaveform (⟨false, b⟩ :: later) s) rfl hxb).symm

/-- Settles O36: the exchange of the sample is carried along by the tick, whose end drops the sample. -/
theorem onlyTheLevelOfTheSampleMatters : Obligations.OnlyTheLevelOfTheSampleMatters :=
  fun _ rst _ _ later h => step_withWaveform_eq rst later h

end Sys2Proof.Machine
end

section
/-! The registers a later tick can read (`SameLive`; 10_state.md R25 to R28, 45_integrity_and_frame_loop.md R219): what
a step rule writes to them depends on them alone. -/

namespace Sys2Proof.Machine

/-- The steps that read `FT`, `raw` or `idx`, or keep them for one that does. -/
def readsAttempt (i : Instr) : Bool := decide (6 ≤ (encode i).toNat) && decide ((encode i).toNat ≤ 14)

theorem decoding_iff {s : State} {i : Instr} (hs : s.stepReg = encode i) : s.decoding ↔ readsAttempt i = true := by
  simp [State.decoding, readsAttempt, hs]

theorem decoding_iff_decode {s : State} : s.decoding ↔ readsAttempt (decode s.stepReg) = true :=
  decoding_iff (encode_decode s.stepReg).symm

namespace SameLive

theorem refl (s : State) : SameLive s s := by
  constructor <;> simp

variable {s t : State} (h : SameLive s t)
include h

theorem level_eq : s.level = t.level := by
  simp only [State.level, State.levelAt, State.pinsAt, h.config, h.waveform, h.ticks]

theorem pins_eq : s.pins = t.pins := by
  simp only [State.pins, State.pinsAt, h.waveform, h.ticks]

theorem expiredWT (ha : s.armed = true) : expired s.now s.wt = expired t.now t.wt := by
  rw [h.now, h.wt ha]

theorem outputs_eq : s.outputs = t.outputs := by
  obtain ⟨hframe, hreject, hpoll, hbit⟩ := h.pulses
  simp only [State.outputs, State.phase, h.stepReg, h.address, h.data, h.result, hframe, hreject, hpoll, hbit]

theorem startWT (w : Nat) : SameLive (startWT w s) (startWT w t) where
  __ := h
  wt _ := by simp only [startWT_wt, h.now]

theorem emitPollTick : SameLive (emitPollTick s) (emitPollTick t) where
  __ := h
  pulses := ⟨h.pulses.1, h.pulses.2.1, rfl, h.pulses.2.2.2⟩

/-- Arming is the one operation that makes `WT` live. -/
theorem arm (hwt : s.wt = t.wt) : SameLive (arm s) (arm t) where
  __ := h
  armed := rfl
  wt _ := hwt

theorem goto {j : Instr} (hj : readsAttempt j = true → s.decoding) : SameLive (goto j s) (goto j t) where
  __ := h
  stepReg := rfl
  armed := rfl
  wt := nofun
  attempt hd := h.attempt (hj ((decoding_iff rfl).mp hd))

theorem raise (c : Failure) : SameLive (raise c s) (raise c t) where
  __ := h.goto (j := .done) nofun
  result := rfl
  pulses := ⟨h.pulses.1, rfl, h.pulses.2.2⟩
  attempt := (h.goto (j := .done) nofun).attempt

theorem classifyOne (hs : s.stepReg = encode .bitWaitMark) : SameLive (classifyOne s) (classifyOne t) := by
  obtain ⟨hft, hraw, hidx⟩ := h.attempt ((decoding_iff hs).mpr rfl)
  exact
    { h with
      stepReg := rfl
      armed := rfl
      wt := nofun
      attempt := fun _ => ⟨hft, by simp [Machine.classifyOne, hraw, hidx], by simp [Machine.classifyOne, hidx]⟩
      pulses := ⟨h.pulses.1, h.pulses.2.1, h.pulses.2.2.1, rfl⟩ }

theorem classifyZero (hs : s.stepReg = encode .bitWaitMark) : SameLive (classifyZero s) (classifyZero t) := by
  obtain ⟨hft, hraw, hidx⟩ := h.attempt ((decoding_iff hs).mpr rfl)
  exact
    { h with
      stepReg := rfl
      armed := rfl
      wt := nofun
      attempt := fun _ => ⟨hft, hraw, by simp [Machine.classifyZero, hidx]⟩
      pulses := ⟨h.pulses.1, h.pulses.2.1, h.pulses.2.2.1, rfl⟩ }

theorem accept (hraw : s.raw = t.raw) : SameLive (accept s) (accept t) where
  __ := h.goto (j := .done) nofun
  address := congrArg addressField hraw
  data := congrArg dataField hraw
  result := rfl
  pulses := ⟨rfl, h.pulses.2⟩
  attempt := (h.goto (j := .done) nofun).attempt

/-- DEC_INIT makes `FT`, `raw` and `idx` live, and writes all three. -/
theorem decInit : SameLive
    (Machine.goto .fbWaitMark { startFT s.config.params.tFrame s with raw := 0, idx := 31 })
    (Machine.goto .fbWaitMark { startFT t.config.params.tFrame t with raw := 0, idx := 31 }) where
  __ := h
  stepReg := rfl
  armed := rfl
  wt := nofun
  attempt _ := ⟨by simp [h.now, h.config], rfl, rfl⟩

variable {i : Instr} (hs : s.stepReg = encode i)
include hs

/-- A `goto` between two steps of an attempt. -/
theorem goto_of_attempt {j : Instr} (hi : readsAttempt i = true) : SameLive (Machine.goto j s) (Machine.goto j t) :=
  h.goto fun _ => (decoding_iff hs).mpr hi

theorem succeedState (hk : (stepTable s.config.params i).kind ≠ .ctrl) :
    SameLive (succeedState i s) (succeedState i t) := by
  cases i
  case idle | decInit | bitHead | check => exact absurd rfl hk
  case lbWaitMark | lbRetMark | lbWaitSpace | lbRetSpace | done => exact h.goto nofun
  case bitWaitMark =>
    rw [← classifyOne_eq_succeedState]
    exact h.classifyOne hs
  all_goals exact h.goto_of_attempt hs rfl

theorem failState (hk : (stepTable s.config.params i).onFailure ≠ .cannotFail) :
    SameLive (failState i s) (failState i t) := by
  cases i
  case idle | decInit | done => exact absurd rfl hk
  case lbWaitMark | lbRetMark | lbWaitSpace | lbRetSpace => exact h.goto nofun
  case bitWaitMark => exact h.classifyZero hs
  case bitHead => exact h.raise .deadlineExhaustion
  case check => exact h.raise .integrity
  all_goals exact h.raise .timeout

theorem runWait {l : DefiniteLevel} (hk : (stepTable s.config.params i).kind = .wait l) (w : Nat) :
    SameLive (runWait l w (Machine.succeedState i) (Machine.failState i) s)
      (runWait l w (Machine.succeedState i) (Machine.failState i) t) := by
  have hfail := onFailure_of_wait hk
  have hstart := (h.startWT w).emitPollTick
  simp only [Machine.runWait, ← h.armed, ← h.level_eq]
  split
  case isTrue ha =>
    rw [← h.expiredWT ha]
    split
    · exact h.succeedState hs (by simp [hk])
    · split
      · exact h.failState hs hfail
      · exact h
  case isFalse =>
    split
    · exact hstart.arm (by simp [h.now])
    · exact hstart.failState hs hfail

theorem runRetain {l : DefiniteLevel} (hk : (stepTable s.config.params i).kind = .retain l) (w : Nat) :
    SameLive (runRetain l w (Machine.succeedState i) (Machine.failState i) s)
      (runRetain l w (Machine.succeedState i) (Machine.failState i) t) := by
  have hfail := onFailure_of_retain hk
  have hstart := h.startWT w
  simp only [Machine.runRetain, ← h.armed, ← h.level_eq]
  split
  case isTrue ha =>
    rw [← h.expiredWT ha]
    split
    · exact h.succeedState hs (by simp [hk])
    · split
      · exact h.failState hs hfail
      · exact h
  case isFalse =>
    split
    · exact hstart.failState hs hfail
    · exact hstart.arm (by simp [h.now])

theorem runPause (hk : (stepTable s.config.params i).kind = .pause) (w : Nat) :
    SameLive (runPause w (Machine.succeedState i) s) (runPause w (Machine.succeedState i) t) := by
  simp only [Machine.runPause, ← h.armed]
  split
  case isTrue ha =>
    rw [← h.expiredWT ha]
    split
    · exact h.succeedState hs (by simp [hk])
    · exact h
  case isFalse => exact (h.startWT w).arm (by simp [h.now])

theorem exec_bitHead (hi : i = .bitHead) : SameLive
    (if allBitsAssembled s.idx then Machine.goto .check s
      else if expired s.now s.ft then Machine.raise .deadlineExhaustion s else Machine.goto .bitWaitMark s)
    (if allBitsAssembled t.idx then Machine.goto .check t
      else if expired t.now t.ft then Machine.raise .deadlineExhaustion t else Machine.goto .bitWaitMark t) := by
  subst hi
  obtain ⟨hft, _, hidx⟩ := h.attempt ((decoding_iff hs).mpr rfl)
  rw [← hidx, ← hft, ← h.now]
  split
  · exact h.goto_of_attempt hs rfl
  · split
    · exact h.raise _
    · exact h.goto_of_attempt hs rfl

theorem exec_check (hi : i = .check) : SameLive
    (if frameOk s.raw then Machine.accept s else Machine.raise .integrity s)
    (if frameOk t.raw then Machine.accept t else Machine.raise .integrity t) := by
  subst hi
  obtain ⟨_, hraw, _⟩ := h.attempt ((decoding_iff hs).mpr rfl)
  rw [← hraw]
  split
  · exact h.accept hraw
  · exact h.raise _

/-- The rule of the current step keeps the agreement. -/
theorem exec {s' : State} (hx : exec i s = .next s') : ∃ t', Machine.exec i t = .next t' ∧ SameLive s' t' := by
  have hrow : stepTable t.config.params i = stepTable s.config.params i := by rw [h.config]
  cases hk : (stepTable s.config.params i).kind with
  | wait l =>
    rw [exec_of_kind_wait hk] at hx
    injection hx with hx
    exact ⟨_, exec_of_kind_wait (hrow ▸ hk), hx ▸ hrow ▸ h.runWait hs hk _⟩
  | retain l =>
    rw [exec_of_kind_retain hk] at hx
    injection hx with hx
    exact ⟨_, exec_of_kind_retain (hrow ▸ hk), hx ▸ hrow ▸ h.runRetain hs hk _⟩
  | pause =>
    rw [exec_of_kind_pause hk] at hx
    injection hx with hx
    exact ⟨_, exec_of_kind_pause (hrow ▸ hk), hx ▸ hrow ▸ h.runPause hs hk _⟩
  | ctrl =>
    rcases kind_eq_ctrl.mp hk with hi | hi | hi | hi <;> subst hi <;> injection hx with hx <;> subst hx
    · exact ⟨_, exec_idle t, h.goto nofun⟩
    · exact ⟨_, exec_decInit t, h.decInit⟩
    · exact ⟨_, Machine.exec_bitHead t, h.exec_bitHead hs rfl⟩
    · exact ⟨_, Machine.exec_check t, h.exec_check hs rfl⟩

omit hs

theorem beginTick : SameLive (beginTick s) (beginTick t) where
  __ := h
  pulses := ⟨rfl, rfl, rfl, rfl⟩

theorem endTick : SameLive (endTick s) (endTick t) where
  __ := h
  waveform := congrArg List.tail h.waveform
  ticks := congrArg (· + 1) h.ticks
  now := congrArg (· + 1) h.now

/-- A tick keeps the agreement. -/
theorem step {s' : State} (hstep : step s = .next s') : ∃ t', Machine.step t = .next t' ∧ SameLive s' t' := by
  have hrst := congrArg PinInput.rst h.pins_eq
  rcases step_cases hstep with ⟨hr, rfl⟩ | ⟨hr, u, hx, rfl⟩
  · refine ⟨resetTick t, by simp [Machine.step, ← hrst, hr], ?_⟩
    rw [resetTick_eq, resetTick_eq, h.config, h.waveform, h.ticks]
    exact .refl _
  · obtain ⟨v, hxv, huv⟩ := h.beginTick.exec (encode_decode _).symm hx
    rw [beginTick_stepReg, h.stepReg] at hxv
    exact ⟨_, step_of_exec (hrst ▸ hr) hxv, huv.endTick⟩

end SameLive

/-- Settles O38: `SameLive` is kept by every operation a step rule is made of, and fixes the outputs. -/
theorem staleRegistersAreNeverRead : Obligations.StaleRegistersAreNeverRead := by
  intro s t s' h hstep
  obtain ⟨t', ht, hlive⟩ := h.step hstep
  exact ⟨t', ht, hlive, hlive.outputs_eq⟩

end Sys2Proof.Machine
end

section
/-! What a tick with `rst` 0 leaves alone and what it writes, register by register (10_state.md R20, "written by"). -/

namespace Sys2Proof.Machine

/-! ### CTRL steps -/

namespace CtrlTick

variable {s u : State} {i : Instr} (h : CtrlTick s i u)
include h

theorem armed_eq : u.armed = false := by cases h <;> rfl
theorem wt_eq : u.wt = s.wt := by cases h <;> rfl
theorem target : decode u.stepReg ∈ (stepTable s.config.params i).targets := by
  cases h <;> simp [StepRow.targets, FailureExit.targets, stepTable]
theorem dbgPollTick_eq : u.dbgPollTick = s.dbgPollTick := by cases h <;> rfl
theorem dbgBitTick_eq : u.dbgBitTick = s.dbgBitTick := by cases h <;> rfl
/-- Only DEC_INIT writes the registers of an attempt, and it writes all three. -/
theorem attempt_cases : (u.ft = s.ft ∧ u.raw = s.raw ∧ u.idx = s.idx ∧ i ≠ .decInit) ∨
    (i = .decInit ∧ u.stepReg = 6 ∧ u.ft = ⟨s.now, BitVec.ofNat 32 s.config.params.tFrame⟩ ∧
      u.raw = 0 ∧ u.idx = 31) := by
  cases h <;> simp [encode]
theorem frame_cases :
    (u.address = s.address ∧ u.data = s.data ∧ u.frameValid = s.frameValid ∧
      ¬ (i = .check ∧ frameOk s.raw = true)) ∨
    (i = .check ∧ frameOk s.raw = true ∧ u.frameValid = true ∧ u.result = .accepted ∧
      u.address = addressField s.raw ∧ u.data = dataField s.raw) := by
  cases h <;> simp_all
theorem result_cases :
    (u.result = s.result ∧ u.rejectValid = s.rejectValid ∧ u.stepReg ≠ 15) ∨
    (i ≠ .done ∧ u.stepReg = 15 ∧ u.result = .accepted ∧ u.rejectValid = s.rejectValid) ∨
    (i ≠ .done ∧ u.stepReg = 15 ∧ (∃ f : Failure, u.result = f.result) ∧ u.rejectValid = true) := by
  cases h <;> simp [encode]

end CtrlTick

/-! ### Steps that last several ticks -/

/-- Only a failure of a step that lasts several ticks takes it to DONE, and it is a Timeout. -/
theorem failState_timed {i : Instr} {v : State} (hk : (stepTable v.config.params i).kind ≠ .ctrl)
    (hf : (stepTable v.config.params i).onFailure ≠ .cannotFail) :
    ((failState i v).result = v.result ∧ (failState i v).rejectValid = v.rejectValid ∧
      (failState i v).stepReg ≠ 15) ∨
    (i ≠ .done ∧ failState i v = raise .timeout v) := by
  cases hexit : (stepTable v.config.params i).onFailure with
  | cannotFail => exact absurd hexit hf
  | goto j =>
    obtain ⟨hstep, hres, hrej⟩ := failState_of_goto hexit
    refine .inl ⟨hres, hrej, ?_⟩
    rw [hstep]
    cases i <;> cases hexit <;> decide
  | raise f =>
    obtain rfl : f = .timeout := by cases i <;> simp_all [stepTable]
    refine .inr ⟨?_, failState_of_raise hexit⟩
    rintro rfl
    cases hexit

theorem succeedState_stepReg_ne_done {i : Instr} {v : State} (hk : (stepTable v.config.params i).kind ≠ .ctrl) :
    (succeedState i v).stepReg ≠ 15 := by
  cases i <;> simp_all [succeedState, stepTable, encode]

namespace TimedTick

variable {s u : State} {i : Instr} (h : TimedTick i s u)
include h

theorem ft_eq : u.ft = s.ft := by cases h <;> simp
theorem address_eq : u.address = s.address := by cases h <;> simp
theorem data_eq : u.data = s.data := by cases h <;> simp
theorem frameValid_eq : u.frameValid = s.frameValid := by cases h <;> simp

theorem wt_cases :
    u.wt = s.wt ∨ (s.armed = false ∧ u.wt = ⟨s.now, BitVec.ofNat 32 (stepTable s.config.params i).window⟩) := by
  cases h <;> simp_all

/-- The step waits on, or arms, or it is left for a target of its row. -/
theorem stays_arms_or_leaves :
    (s.armed = true ∧ expired s.now s.wt = false ∧ u = s) ∨ (s.armed = false ∧ u = arm (startWindow i s)) ∨
    (decode u.stepReg ∈ (stepTable s.config.params i).targets ∧ u.armed = false) := by
  cases h with
  | stays ha he => exact .inl ⟨ha, he, rfl⟩
  | arms ha => exact .inr (.inl ⟨ha, rfl⟩)
  | succeeds =>
    exact .inr (.inr ⟨List.mem_append_left _ (succeedState_target i s), succeedState_armed i s⟩)
  | fails _ hf => exact .inr (.inr ⟨List.mem_append_right _ (failState_target hf), failState_armed hf⟩)
  | failsAtOnce _ hf =>
    rw [← startWindow_config i s] at hf ⊢
    exact .inr (.inr ⟨List.mem_append_right _ (failState_target hf), failState_armed hf⟩)

theorem dbgPollTick_iff (hpoll : s.dbgPollTick = false) :
    u.dbgPollTick = true ↔ s.armed = false ∧ ∃ l, (stepTable s.config.params i).kind = .wait l := by
  cases h <;> simp_all [startWindow_dbgPollTick]

/-- Only BIT_WAIT_MARK touches the bits of an attempt, and only as it classifies one (44_frame_decode.md R182). -/
theorem bit_cases :
    (u.raw = s.raw ∧ u.idx = s.idx ∧ u.dbgBitTick = s.dbgBitTick ∧ (i = .bitWaitMark → u.stepReg = s.stepReg)) ∨
    (i = .bitWaitMark ∧ u.stepReg = 7 ∧ u.raw = s.raw ||| (1#32 <<< (s.idx.toNat % 32)) ∧ u.idx = s.idx - 1 ∧
      u.dbgBitTick = true) ∨
    (i = .bitWaitMark ∧ u.stepReg = 12 ∧ u.raw = s.raw ∧ u.idx = s.idx - 1 ∧ u.dbgBitTick = true) := by
  by_cases hi : i = .bitWaitMark
  · subst hi
    cases h with
    | stays => exact .inl ⟨rfl, rfl, rfl, fun _ => rfl⟩
    | arms => exact .inl ⟨rfl, rfl, rfl, fun _ => rfl⟩
    | succeeds => exact .inr (.inl ⟨rfl, rfl, rfl, rfl, rfl⟩)
    | fails => exact .inr (.inr ⟨rfl, rfl, rfl, rfl, rfl⟩)
    | failsAtOnce => exact .inr (.inr ⟨rfl, rfl, rfl, rfl, rfl⟩)
  · refine .inl ⟨?_, ?_, ?_, (absurd · hi)⟩ <;> cases h <;>
      simp [hi, succeedState_raw, succeedState_idx, failState_idx, succeedState_dbgBitTick, failState_dbgBitTick]

theorem result_cases (hk : (stepTable s.config.params i).kind ≠ .ctrl) (hs : s.stepReg = encode i) :
    (u.result = s.result ∧ u.rejectValid = s.rejectValid ∧ (i ≠ .done → u.stepReg ≠ 15)) ∨
    (i ≠ .done ∧ u.stepReg = 15 ∧ u.result = Failure.timeout.result ∧ u.rejectValid = true) := by
  have hstay : i ≠ .done → s.stepReg ≠ 15 := fun hi h15 => hi (encode_injective (hs.symm.trans h15))
  cases h with
  | stays => exact .inl ⟨rfl, rfl, hstay⟩
  | arms => exact .inl ⟨by simp, by simp, by simpa using hstay⟩
  | succeeds => exact .inl ⟨by simp, by simp, fun _ => succeedState_stepReg_ne_done hk⟩
  | fails _ hf =>
    rcases failState_timed hk hf with hgoto | ⟨hi, hraise⟩
    · exact .inl ⟨hgoto.1, hgoto.2.1, fun _ => hgoto.2.2⟩
    · exact .inr (hraise ▸ ⟨hi, rfl, rfl, rfl⟩)
  | failsAtOnce _ hf =>
    rw [← startWindow_config i s] at hk hf
    rcases failState_timed hk hf with hgoto | ⟨hi, hraise⟩
    · exact .inl ⟨by simp [hgoto.1], by simp [hgoto.2.1], fun _ => hgoto.2.2⟩
    · exact .inr (hraise ▸ ⟨hi, rfl, rfl, rfl⟩)

end TimedTick

/-! ### The tick -/

section tick

variable {s t : State} (hrst : s.pins.rst = false) (h : step s = .next t)
include hrst h

theorem step_wt_cases : t.wt = s.wt ∨
    (s.armed = false ∧ s.row.kind ≠ .ctrl ∧ t.wt = ⟨s.now, BitVec.ofNat 32 s.row.window⟩) := by
  obtain ⟨u, rfl, ⟨_, hu⟩ | ⟨hk, hu⟩⟩ := tick_cases hrst h
  · exact .inl hu.wt_eq
  · exact hu.wt_cases.imp_right fun ⟨ha, hwt⟩ => ⟨ha, hk, hwt⟩

theorem step_ft_cases : (t.ft = s.ft ∧ s.stepReg ≠ 5) ∨
    (s.stepReg = 5 ∧ t.ft = ⟨s.now, BitVec.ofNat 32 s.config.params.tFrame⟩) := by
  have hinit : decode s.stepReg = .decInit ↔ s.stepReg = 5 := decode_eq_iff
  obtain ⟨u, rfl, ⟨_, hu⟩ | ⟨hk, hu⟩⟩ := tick_cases hrst h
  · rcases hu.attempt_cases with ⟨hft, _, _, hi⟩ | ⟨hi, _, hft, _⟩
    · exact .inl ⟨hft, fun h5 => hi (hinit.mpr h5)⟩
    · exact .inr ⟨hinit.mp hi, hft⟩
  · exact .inl ⟨hu.ft_eq, fun h5 => hk (kind_eq_ctrl.mpr (.inr (.inl (hinit.mpr h5))))⟩

/-- What a tick does to the bits of an attempt: nothing, clear them, or classify one (44_frame_decode.md R176,
R182). -/
theorem step_bit_cases :
    (t.raw = s.raw ∧ t.idx = s.idx ∧ t.dbgBitTick = false ∧ s.stepReg ≠ 5 ∧
      (s.stepReg = 11 → t.stepReg = 11)) ∨
    (s.stepReg = 5 ∧ t.stepReg = 6 ∧ t.raw = 0 ∧ t.idx = 31 ∧ t.dbgBitTick = false) ∨
    (s.stepReg = 11 ∧ t.stepReg = 7 ∧ t.raw = s.raw ||| (1#32 <<< (s.idx.toNat % 32)) ∧ t.idx = s.idx - 1 ∧
      t.dbgBitTick = true) ∨
    (s.stepReg = 11 ∧ t.stepReg = 12 ∧ t.raw = s.raw ∧ t.idx = s.idx - 1 ∧ t.dbgBitTick = true) := by
  have hinit : decode s.stepReg = .decInit ↔ s.stepReg = 5 := decode_eq_iff
  have hbit : decode s.stepReg = .bitWaitMark ↔ s.stepReg = 11 := decode_eq_iff
  obtain ⟨u, rfl, ⟨hk, hu⟩ | ⟨hk, hu⟩⟩ := tick_cases hrst h
  · have h11 : s.stepReg ≠ 11 := fun h11 => by simp [State.row, stepTable, hbit.mpr h11] at hk
    rcases hu.attempt_cases with ⟨_, hraw, hidx, hi⟩ | ⟨hi, hstep, _, hraw, hidx⟩
    · exact .inl ⟨hraw, hidx, hu.dbgBitTick_eq, fun h5 => hi (hinit.mpr h5), fun h => absurd h h11⟩
    · exact .inr (.inl ⟨hinit.mp hi, hstep, hraw, hidx, hu.dbgBitTick_eq⟩)
  · have h5 : s.stepReg ≠ 5 := fun h5 => hk (kind_eq_ctrl.mpr (.inr (.inl (hinit.mpr h5))))
    rcases hu.bit_cases with ⟨hraw, hidx, hbt, hstay⟩ | ⟨hi, hone⟩ | ⟨hi, hzero⟩
    · exact .inl ⟨hraw, hidx, hbt, h5, fun h11 => (hstay (hbit.mpr h11)).trans h11⟩
    · exact .inr (.inr (.inl ⟨hbit.mp hi, hone⟩))
    · exact .inr (.inr (.inr ⟨hbit.mp hi, hzero⟩))

/-- `address` and `data` are written, and `frame_valid` given, exactly when CHECK passes. -/
theorem step_frame_cases :
    (t.address = s.address ∧ t.data = s.data ∧ t.frameValid = false ∧ ¬ (s.stepReg = 14 ∧ frameOk s.raw = true)) ∨
    (s.stepReg = 14 ∧ frameOk s.raw = true ∧ t.frameValid = true ∧ t.result = .accepted ∧
      t.address = addressField s.raw ∧ t.data = dataField s.raw) := by
  obtain ⟨u, rfl, ⟨_, hu⟩ | ⟨hk, hu⟩⟩ := tick_cases hrst h
  · refine hu.frame_cases.imp (fun ⟨ha, hd, hv, hn⟩ => ⟨ha, hd, hv, fun hc => hn ?_⟩)
      fun ⟨hi, hok, hv⟩ => ⟨decode_eq_iff.mp hi, hok, hv⟩
    exact ⟨decode_eq_iff.mpr hc.1, hc.2⟩
  · refine .inl ⟨hu.address_eq, hu.data_eq, hu.frameValid_eq, fun hc => hk ?_⟩
    exact kind_eq_ctrl.mpr (.inr (.inr (.inr (decode_eq_iff.mpr hc.1))))

/-- `result` is written exactly where DONE is entered, by an accepted frame or by a failure. -/
theorem step_result_cases :
    (t.result = s.result ∧ t.rejectValid = false ∧ (s.stepReg ≠ 15 → t.stepReg ≠ 15)) ∨
    (s.stepReg ≠ 15 ∧ t.stepReg = 15 ∧ t.result = .accepted ∧ t.rejectValid = false) ∨
    (s.stepReg ≠ 15 ∧ t.stepReg = 15 ∧ (∃ f : Failure, t.result = f.result) ∧ t.rejectValid = true) := by
  have hdone : decode s.stepReg ≠ .done ↔ s.stepReg ≠ 15 := not_congr decode_eq_iff
  obtain ⟨u, rfl, ⟨_, hu⟩ | ⟨hk, hu⟩⟩ := tick_cases hrst h
  · rw [← hdone]
    exact hu.result_cases.imp_left fun ⟨hres, hrej, hstep⟩ => ⟨hres, hrej, fun _ => hstep⟩
  · rw [← hdone]
    refine (hu.result_cases hk (encode_decode _).symm).imp_right fun ⟨hi, hstep, hres, hrej⟩ => .inr ?_
    exact ⟨hi, hstep, ⟨_, hres⟩, hrej⟩

theorem step_dbgBitTick_iff : t.dbgBitTick = true ↔ s.stepReg = 11 ∧ t.stepReg ≠ 11 := by
  rcases step_bit_cases hrst h with ⟨_, _, hbt, _, hstay⟩ | ⟨hs, _, _, _, hbt⟩ | ⟨hs, ht, _, _, hbt⟩ |
    ⟨hs, ht, _, _, hbt⟩
  · simpa [hbt] using hstay
  all_goals simp [hbt, hs]
  all_goals simp [ht]

theorem step_dbgPollTick_iff : t.dbgPollTick = true ↔ s.armed = false ∧ ∃ l, s.row.kind = .wait l := by
  obtain ⟨u, rfl, ⟨hk, hu⟩ | ⟨_, hu⟩⟩ := tick_cases hrst h
  · simp [hu.dbgPollTick_eq, hk]
  · exact hu.dbgPollTick_iff rfl

/-- The step goes on, or is left for a target of its row with `armed` 0; a CTRL step is always left. -/
theorem step_target_cases :
    (s.row.kind ≠ .ctrl ∧ t.stepReg = s.stepReg) ∨ (decode t.stepReg ∈ s.row.targets ∧ t.armed = false) := by
  obtain ⟨u, rfl, ⟨_, hu⟩ | ⟨hk, hu⟩⟩ := tick_cases hrst h
  · exact .inr ⟨hu.target, hu.armed_eq⟩
  · rcases hu.stays_arms_or_leaves with ⟨_, _, rfl⟩ | ⟨_, rfl⟩ | hleaves
    · exact .inl ⟨hk, rfl⟩
    · exact .inl ⟨hk, by simp⟩
    · exact .inr hleaves

theorem step_frame : t.config = s.config ∧ t.now = s.now + 1 ∧ t.waveform = s.waveform.tail ∧
    t.ticks = s.ticks + 1 := by
  obtain ⟨u, hx, rfl⟩ := exec_of_step hrst h
  obtain ⟨hc, hw, ht, hn⟩ := exec_frame hx
  exact ⟨hc, congrArg (· + 1) hn, congrArg List.tail hw, congrArg (· + 1) ht⟩

end tick

/-- Settles O33: `step_target_cases`; a step that goes on is no CTRL step. -/
theorem onlyTheTablesTransitions : Obligations.OnlyTheTablesTransitions := by
  intro s t hrst h
  rcases step_target_cases hrst h with ⟨hk, hs⟩ | ⟨htarget, ha⟩
  · exact ⟨.inl hs, fun hne => absurd hs hne, fun hc => absurd hc hk⟩
  · exact ⟨.inr htarget, fun _ => ha, fun _ => ⟨htarget, ha⟩⟩

/-- Settles O34, a register at a time, from what a tick can do to it. -/
theorem registersChangeOnlyByTheirWriters : Obligations.RegistersChangeOnlyByTheirWriters := by
  intro s t hrst h
  obtain ⟨hconfig, hnow, hwave, hticks⟩ := step_frame hrst h
  refine ⟨hconfig, hnow, hwave, hticks, (step_wt_cases hrst h).resolve_left, fun hne => ?_, fun hne => ?_,
    fun hne => ?_, fun hne => ?_, fun hne => ?_⟩
  · exact (step_ft_cases hrst h).resolve_left fun hft => hne hft.1
  · rcases step_bit_cases hrst h with ⟨hraw, _⟩ | ⟨hs, _, hraw, _⟩ | ⟨hs, ht, hraw, _⟩ | ⟨_, _, hraw, _⟩
    · exact absurd hraw hne
    · exact .inl ⟨hs, hraw⟩
    · exact .inr ⟨hs, ht, hraw⟩
    · exact absurd hraw hne
  · rcases step_bit_cases hrst h with ⟨_, hidx, _⟩ | ⟨hs, _, _, hidx, _⟩ | ⟨hs, ht, _, hidx, _⟩ | ⟨hs, ht, _, hidx, _⟩
    · exact absurd hidx hne
    · exact .inl ⟨hs, hidx⟩
    · exact .inr ⟨hs, by simp [ht], hidx⟩
    · exact .inr ⟨hs, by simp [ht], hidx⟩
  · rcases step_frame_cases hrst h with ⟨ha, hd, _⟩ | ⟨hs, hok, _⟩
    · exact absurd hne (by simp [ha, hd])
    · exact ⟨hs, hok⟩
  · rcases step_result_cases hrst h with ⟨hres, _⟩ | ⟨hs, ht, _⟩ | ⟨hs, ht, _⟩
    · exact absurd hres hne
    · exact ⟨hs, ht⟩
    · exact ⟨hs, ht⟩

/-- Settles O35, a pulse at a time, from what a tick can do to it. -/
theorem pulsesMarkTheirEvents : Obligations.PulsesMarkTheirEvents := by
  intro s t hrst h
  have hframe : t.frameValid = true ↔ s.stepReg = 14 ∧ frameOk s.raw = true := by
    rcases step_frame_cases hrst h with ⟨_, _, hv, hn⟩ | ⟨hs, hok, hv, _⟩
    · simpa [hv] using hn
    · simp [hv, hs, hok]
  have hreject : t.rejectValid = true ↔ s.stepReg ≠ 15 ∧ t.stepReg = 15 ∧ t.result ≠ .accepted := by
    rcases step_result_cases hrst h with ⟨_, hr, hstep⟩ | ⟨_, _, hres, hr⟩ | ⟨hs, ht, ⟨f, hres⟩, hr⟩
    · simp only [hr, Bool.false_eq_true, false_iff]
      exact fun ⟨hs, ht, _⟩ => hstep hs ht
    · simp [hr, hres]
    · cases f <;> simpa [hr, ht, hres, Failure.result] using hs
  have hpoll : t.dbgPollTick = true ↔
      s.armed = false ∧ (s.row.kind = .wait .mark ∨ s.row.kind = .wait .nonMark) := by
    have hlevels : (∃ l, s.row.kind = .wait l) ↔ s.row.kind = .wait .mark ∨ s.row.kind = .wait .nonMark :=
      ⟨fun ⟨l, hl⟩ => by cases l; exacts [.inl hl, .inr hl], fun h => h.elim (⟨_, ·⟩) (⟨_, ·⟩)⟩
    rw [step_dbgPollTick_iff hrst h, hlevels]
  refine ⟨hframe, hreject, hpoll, step_dbgBitTick_iff hrst h, fun ⟨hf, hr⟩ => (hreject.mp hr).2.2 ?_⟩
  rcases step_frame_cases hrst h with ⟨_, _, hv, _⟩ | ⟨_, _, _, hres, _⟩
  · simp [hv] at hf
  · exact hres

/-- Settles O32: reset answers a next state, and so does every step rule. -/
theorem everyTickHasANextState : Obligations.EveryTickHasANextState := step_total

end Sys2Proof.Machine
end

section
/-! How long a step has been timed (42_wait_and_retain.md R138, R147): a tick leaves the step with `armed` 0, or the
window has not passed and one more tick of it has been waited. -/

namespace Sys2Proof.Machine

theorem window_mem_durations {p : Params} {i : Instr} (hk : (stepTable p i).kind ≠ .ctrl) :
    (stepTable p i).window ∈ p.durations := by
  cases i <;> simp_all [stepTable, Params.durations]

theorem row_window_mem {s : State} (hk : s.row.kind ≠ .ctrl) : s.row.window ∈ s.config.params.durations :=
  window_mem_durations hk

/-- While the step is armed, `WT` holds its window. -/
def State.windowHeld (s : State) : Prop := s.armed = true → s.wt.dur = BitVec.ofNat 32 s.row.window

theorem waited_of_not_armed {s : State} (h : s.armed = false) : s.waited = 0 := by
  simp [State.waited, h]

theorem waited_of_armed {s : State} (h : s.armed = true) : s.waited = (elapsed s.now s.wt).toNat := by
  simp [State.waited, h]

/-- One tick after its start a timer has counted 1. -/
theorem elapsed_eq_one {s t : State} (hnow : t.now = s.now + 1) (hstart : t.wt.start = s.now) :
    elapsed t.now t.wt = 1 := by
  rw [elapsed, hnow, hstart, add_sub_cancel_left]

/-- The step goes on: it is armed, with its window in `WT`, and has waited one tick more. -/
structure Continues (s t : State) : Prop where
  timed : s.row.kind ≠ .ctrl
  stepReg : t.stepReg = s.stepReg
  armed : t.armed = true
  dur : t.wt.dur = BitVec.ofNat 32 s.row.window
  waited : t.waited = s.waited + 1
  window : s.waited < s.row.window

/-- The step is left for one of the targets of its row. -/
structure Leaves (s t : State) : Prop where
  target : decode t.stepReg ∈ s.row.targets
  armed : t.armed = false

theorem continues_or_leaves {s t : State} (hrst : s.pins.rst = false) (hheld : s.windowHeld)
    (h : step s = .next t) : Continues s t ∨ Leaves s t := by
  obtain ⟨u, rfl, ⟨_, hu⟩ | ⟨hk, hu⟩⟩ := tick_cases hrst h
  · exact .inr ⟨hu.target, hu.armed_eq⟩
  · have hwindow := s.config.duration_range (row_window_mem hk)
    rcases hu.stays_arms_or_leaves with ⟨ha, he, rfl⟩ | ⟨ha, rfl⟩ | ⟨htarget, ha⟩
    · have ha : s.armed = true := ha
      have hdur := hheld ha
      have hlt : s.waited < s.row.window := by
        have hlt := (not_expired_iff s.now s.wt).mp he
        rwa [hdur, toNat_duration s.config (row_window_mem hk), ← waited_of_armed ha] at hlt
      have hsucc : (elapsed (s.now + 1) s.wt).toNat = s.waited + 1 := by
        rw [waited_of_armed ha] at hlt ⊢
        exact elapsed_succ _ _ (by omega)
      exact .inl ⟨hk, rfl, ha, hdur, (waited_of_armed (s := endTick (beginTick s)) ha).trans hsucc, hlt⟩
    · have h0 : s.waited = 0 := waited_of_not_armed ha
      refine .inl ⟨hk, by simp, rfl, by simp [State.row], ?_, ?_⟩
      · rw [waited_of_armed rfl, h0, elapsed_eq_one (s := s) (by simp) (by simp)]
        rfl
      · rw [h0]
        exact hwindow.1
    · exact .inr ⟨htarget, ha⟩

/-- A window that goes on stays in `WT`, and a step is entered unarmed. -/
theorem windowHeld_step {s t : State} (hrst : s.pins.rst = false) (hheld : s.windowHeld) (h : step s = .next t) :
    t.windowHeld := by
  rcases continues_or_leaves hrst hheld h with hc | hl
  · intro _
    rw [hc.dur, State.row, State.row, hc.stepReg, config_step h]
  · exact fun ha => absurd (hl.armed.symm.trans ha) (by simp)

end Sys2Proof.Machine
end

section
/-! The bounds on a decode attempt (44_frame_decode.md R190, R191): each transition of the table leads from the bound
of a step, with its whole window, to the bound of the next. -/

namespace Sys2Proof

open Machine

/-- The transitions of the step table inside a decode attempt (30_encoding.md R88). -/
inductive AttemptMove : Instr → Instr → Prop where
  | firstBurst : AttemptMove .fbWaitMark .brRetMark
  | burstHeld : AttemptMove .brRetMark .brWaitSpace
  | burstEnded : AttemptMove .brWaitSpace .brRetSpace
  | spaceHeld : AttemptMove .brRetSpace .bitHead
  | complete : AttemptMove .bitHead .check
  | nextBit : AttemptMove .bitHead .bitWaitMark
  | one : AttemptMove .bitWaitMark .brRetMark
  | zero : AttemptMove .bitWaitMark .zRetSpace
  | longSpaceHeld : AttemptMove .zRetSpace .zWaitMark
  | longSpaceEnded : AttemptMove .zWaitMark .brRetMark

theorem attemptMove_of_target {p : Params} {i j : Instr} (hi : readsAttempt i = true) (hj : readsAttempt j = true)
    (hij : j ∈ (stepTable p i).targets) : AttemptMove i j := by
  cases i
  case idle | lbWaitMark | lbRetMark | lbWaitSpace | lbRetSpace | decInit | done => cases hi
  all_goals simp only [stepTable, StepRow.targets, FailureExit.targets, List.cons_append, List.nil_append,
    List.mem_cons, List.not_mem_nil, or_false] at hij
  case fbWaitMark => rcases hij with rfl | rfl <;> [exact .firstBurst; cases hj]
  case brRetMark => rcases hij with rfl | rfl <;> [exact .burstHeld; cases hj]
  case brWaitSpace => rcases hij with rfl | rfl <;> [exact .burstEnded; cases hj]
  case brRetSpace => rcases hij with rfl | rfl <;> [exact .spaceHeld; cases hj]
  case bitHead => rcases hij with rfl | rfl | rfl <;> [exact .complete; exact .nextBit; cases hj]
  case bitWaitMark => rcases hij with rfl | rfl <;> [exact .one; exact .zero]
  case zRetSpace => rcases hij with rfl | rfl <;> [exact .longSpaceHeld; cases hj]
  case zWaitMark => rcases hij with rfl | rfl <;> [exact .longSpaceEnded; cases hj]
  case check => rcases hij with rfl | rfl <;> cases hj

variable (p : Params)

theorem Params.firstHeadBound_le_headBound (zeros ones : Nat) : p.firstHeadBound ≤ p.headBound zeros ones := by
  unfold Params.headBound
  omega

theorem Params.headBound_succ_zeros (zeros ones : Nat) :
    p.headBound (zeros + 1) ones = p.headBound zeros ones + p.zeroIterationBound := by
  unfold Params.headBound
  rw [Nat.mul_succ]
  omega

theorem Params.headBound_succ_ones (zeros ones : Nat) :
    p.headBound zeros (ones + 1) = p.headBound zeros ones + p.oneIterationBound := by
  unfold Params.headBound
  rw [Nat.mul_succ]
  omega

/-- The steps of a decode attempt that do not classify a bit: the bound of the next step takes up the window. -/
theorem Params.armBound_add_window_lt {zeros ones : Nat} {i j : Instr} (hmove : AttemptMove i j)
    (hbit : i ≠ .bitWaitMark) (hzero : i = .zWaitMark → 1 ≤ zeros) :
    p.armBound zeros ones i + (stepTable p i).window < p.armBound zeros ones j := by
  have hfirst := p.firstHeadBound_le_headBound zeros ones
  unfold Params.firstHeadBound at hfirst
  cases hmove
  case one | zero => exact absurd rfl hbit
  case longSpaceEnded =>
    obtain ⟨z, rfl⟩ : ∃ z, zeros = z + 1 := ⟨zeros - 1, (Nat.sub_add_cancel (hzero rfl)).symm⟩
    have hsucc := p.headBound_succ_zeros z ones
    unfold Params.zeroIterationBound at hsucc
    simp only [stepTable, Params.armBound, Params.burstTail, Nat.add_sub_cancel]
    omega
  all_goals
    simp only [stepTable, Params.armBound, Params.burstTail]
    omega

/-- The two classifications: one more 1, one more 0. -/
theorem Params.armBound_classify (zeros ones : Nat) :
    p.armBound zeros ones .bitWaitMark + p.tBitMarkWait < p.armBound zeros (ones + 1) .brRetMark ∧
    p.armBound zeros ones .bitWaitMark + p.tBitMarkWait < p.armBound (zeros + 1) ones .zRetSpace := by
  have hone := p.headBound_succ_ones zeros ones
  unfold Params.oneIterationBound at hone
  simp only [Params.armBound, Params.burstTail, Nat.add_sub_cancel]
  omega

/-- The bound from the deadline, which BIT_HEAD tests on its way to BIT_WAIT_MARK. -/
theorem Params.deadlineBound_add_window_lt {i j : Instr} (hmove : AttemptMove i j)
    (hhead : ¬ (i = .bitHead ∧ j = .bitWaitMark)) :
    p.deadlineBound i + (stepTable p i).window < p.deadlineBound j := by
  have hfirst : p.firstHeadBound ≤ p.lastHead := Nat.le_max_left _ _
  have hlast : p.tFrame - 1 + p.zeroIterationBound ≤ p.lastHead := Nat.le_max_right _ _
  unfold Params.firstHeadBound at hfirst
  unfold Params.zeroIterationBound at hlast
  cases hmove
  case nextBit => exact absurd ⟨rfl, rfl⟩ hhead
  all_goals
    simp only [stepTable, Params.deadlineBound, Params.burstTail]
    omega

/-- An attempt, with the window of its step, is over at the CHECK that follows the latest BIT_HEAD. -/
theorem Params.deadlineBound_add_window_le {i : Instr} (hi : readsAttempt i = true) :
    p.deadlineBound i + (stepTable p i).window ≤ p.lastHead + 1 := by
  have hfirst : p.firstHeadBound ≤ p.lastHead := Nat.le_max_left _ _
  have hlast : p.tFrame - 1 + p.zeroIterationBound ≤ p.lastHead := Nat.le_max_right _ _
  unfold Params.firstHeadBound at hfirst
  unfold Params.zeroIterationBound at hlast
  cases i
  case idle | lbWaitMark | lbRetMark | lbWaitSpace | lbRetSpace | decInit | done => cases hi
  all_goals
    simp only [stepTable, Params.deadlineBound, Params.burstTail]
    omega

/-- No bound on an attempt comes near the wrap of `elapsed(FT)` (00_scope.md R9). -/
theorem Config.lastHead_lt (c : Config) : c.params.lastHead + 1 < 2 ^ 32 - 1 := by
  have hmax := c.eMax_lt
  have hframe := c.duration_range (d := c.params.tFrame) (by simp [Params.durations])
  unfold Params.lastHead
  unfold Params.eMax Params.firstHeadBound Params.zeroIterationBound at *
  omega

theorem Config.deadlineBound_add_window_lt (c : Config) {i : Instr} (hi : readsAttempt i = true) :
    c.params.deadlineBound i + (stepTable c.params i).window < 2 ^ 32 - 1 :=
  Nat.lt_of_le_of_lt (c.params.deadlineBound_add_window_le hi) c.lastHead_lt

end Sys2Proof
end

section
/-! The invariant of the block (`Inv`) at reset and under every tick, a clause at a time. The bits first: how many were
classified and how many of them are 1 (44_frame_decode.md R185, R186). -/

namespace Sys2Proof.Machine

theorem allBitsAssembled_eq_false {idx : BitVec 6} (h : idx.toNat ≤ 31) : allBitsAssembled idx = false :=
  Nat.testBit_lt_two_pow (by omega)

/-- A bit classified 1 adds to the ones (44_frame_decode.md R182). -/
theorem counts_of_one {s t : State} (hidx : s.idx.toNat ≤ 31) (hzero : s.raw.getLsbD s.idx.toNat = false)
    (hraw : t.raw = s.raw ||| (1#32 <<< (s.idx.toNat % 32))) (hnext : t.idx = s.idx - 1) :
    t.ones = s.ones + 1 ∧ t.zeros = s.zeros := by
  rw [Nat.mod_eq_of_lt (by omega)] at hraw
  have hones : t.ones = s.ones + 1 := by
    rw [State.ones, hraw]
    exact onesIn_setBit _ _ (by omega) hzero
  refine ⟨hones, ?_⟩
  unfold State.ones at hones
  rw [State.zeros, State.zeros, hnext, bitsClassified_pred hidx, hones]
  omega

/-- A bit classified 0 adds to the zeros (44_frame_decode.md R182). -/
theorem counts_of_zero {s t : State} (hidx : s.idx.toNat ≤ 31) (hle : s.ones ≤ bitsClassified s.idx)
    (hraw : t.raw = s.raw) (hnext : t.idx = s.idx - 1) : t.ones = s.ones ∧ t.zeros = s.zeros + 1 := by
  refine ⟨by rw [State.ones, State.ones, hraw], ?_⟩
  unfold State.ones at hle
  rw [State.zeros, State.zeros, hraw, hnext, bitsClassified_pred hidx]
  omega

theorem counts_of_eq {s t : State} (hraw : t.raw = s.raw) (hidx : t.idx = s.idx) :
    t.ones = s.ones ∧ t.zeros = s.zeros := by
  simp only [State.ones, State.zeros, hraw, hidx, and_self]

/-- What BIT_HEAD does: completion before the deadline, then the next bit (44_frame_decode.md R181). -/
theorem step_of_bitHead {s t : State} (hrst : s.pins.rst = false) (h : step s = .next t) (hs : s.stepReg = 10) :
    (allBitsAssembled s.idx = true ∧ t.stepReg = 14) ∨
    (allBitsAssembled s.idx = false ∧ expired s.now s.ft = true ∧ t.stepReg = 15) ∨
    (allBitsAssembled s.idx = false ∧ expired s.now s.ft = false ∧ t.stepReg = 11) := by
  have hi : decode s.stepReg = .bitHead := decode_eq_iff.mpr hs
  obtain ⟨u, rfl, ⟨_, hu⟩ | ⟨hk, _⟩⟩ := tick_cases hrst h
  · rw [hi] at hu
    cases hu with
    | complete hall => exact .inl ⟨hall, rfl⟩
    | deadline hall hexp => exact .inr (.inl ⟨hall, hexp, rfl⟩)
    | nextBit hall hexp => exact .inr (.inr ⟨hall, hexp, rfl⟩)
  · exact absurd (kind_eq_ctrl.mpr (.inr (.inr (.inl hi)))) hk

/-- Only DEC_INIT and BIT_WAIT_MARK touch the bits. -/
theorem step_keeps_bits {s t : State} (hrst : s.pins.rst = false) (h : step s = .next t) (h5 : s.stepReg ≠ 5)
    (h11 : s.stepReg ≠ 11) : t.raw = s.raw ∧ t.idx = s.idx := by
  rcases step_bit_cases hrst h with ⟨hraw, hidx, _⟩ | ⟨hs, _⟩ | ⟨hs, _⟩ | ⟨hs, _⟩
  · exact ⟨hraw, hidx⟩
  · exact absurd hs h5
  · exact absurd hs h11
  · exact absurd hs h11

/-- A step is entered only from a step whose row names it. -/
theorem step_entered {s t : State} (hrst : s.pins.rst = false) (h : step s = .next t) {j : Instr}
    (ht : t.stepReg = encode j) (hs : s.stepReg ≠ encode j) : j ∈ s.row.targets ∧ t.armed = false := by
  rcases step_target_cases hrst h with ⟨_, hstay⟩ | ⟨htarget, ha⟩
  · exact absurd (hstay.symm.trans ht) hs
  · rw [decode_eq_iff.mpr ht] at htarget
    exact ⟨htarget, ha⟩

/-- A decode attempt is entered by DEC_INIT alone. -/
theorem readsAttempt_of_target {p : Params} {i j : Instr} (hij : j ∈ (stepTable p i).targets)
    (hj : readsAttempt j = true) : i = .decInit ∨ readsAttempt i = true := by
  cases i
  case idle | done =>
    obtain rfl : j = _ := List.mem_singleton.mp hij
    cases hj
  case lbWaitMark | lbRetMark | lbWaitSpace | lbRetSpace =>
    simp only [stepTable, StepRow.targets, FailureExit.targets, List.cons_append, List.nil_append, List.mem_cons,
      List.not_mem_nil, or_false] at hij
    rcases hij with rfl | rfl <;> cases hj
  case decInit => exact .inl rfl
  all_goals exact .inr rfl

/-- The one step before FB_WAIT_MARK, BIT_WAIT_MARK, Z_RET_SPACE, Z_WAIT_MARK or CHECK. -/
def predecessor : Instr → Instr
  | .fbWaitMark => .decInit
  | .zRetSpace => .bitWaitMark
  | .zWaitMark => .zRetSpace
  | _ => .bitHead

theorem eq_predecessor {p : Params} {i j : Instr} (hij : j ∈ (stepTable p i).targets)
    (hj : j ∈ [Instr.fbWaitMark, .bitWaitMark, .zRetSpace, .zWaitMark, .check]) : i = predecessor j := by
  simp only [List.mem_cons, List.not_mem_nil, or_false] at hj
  rcases hj with rfl | rfl | rfl | rfl | rfl <;> cases i <;>
    simp [stepTable, StepRow.targets, FailureExit.targets, predecessor] at hij ⊢

/-- How a WAIT reports its failure (42_wait_and_retain.md R139, 44_frame_decode.md R182). -/
theorem failState_of_wait {i : Instr} {v : State} {l : DefiniteLevel}
    (hk : (stepTable v.config.params i).kind = .wait l) :
    (failState i v).stepReg = 0 ∨ ((failState i v).stepReg = 12 ∧ (failState i v).dbgBitTick = true) ∨
      ((failState i v).stepReg = 15 ∧ (failState i v).rejectValid = true) := by
  cases i <;> cases hk <;> simp [failState, stepTable, encode]

section pulses

variable {s t : State} (hrst : s.pins.rst = false) (h : step s = .next t)
include hrst h

theorem frame_valid_of_step (hv : t.frameValid = true) :
    t.stepReg = 15 ∧ t.armed = false ∧ t.result = .accepted ∧ frameOk t.raw = true ∧
    t.address = addressField t.raw ∧ t.data = dataField t.raw := by
  rcases step_frame_cases hrst h with ⟨_, _, hnot, _⟩ | ⟨hs, hok, _, hres, haddr, hdata⟩
  · exact absurd (hnot.symm.trans hv) (by decide)
  · have hraw := (step_keeps_bits hrst h (by simp [hs]) (by simp [hs])).1
    have hcheck : decode s.stepReg = .check := decode_eq_iff.mpr hs
    rcases step_target_cases hrst h with ⟨hk, _⟩ | ⟨htarget, ha⟩
    · exact absurd (kind_eq_ctrl.mpr (.inr (.inr (.inr hcheck)))) hk
    · rw [State.row, hcheck] at htarget
      have hdone : decode t.stepReg = .done := by
        simpa [stepTable, StepRow.targets, FailureExit.targets] using htarget
      rw [hraw]
      exact ⟨decode_eq_iff.mp hdone, ha, hres, hok, haddr, hdata⟩

theorem reject_valid_of_step (hv : t.rejectValid = true) :
    t.stepReg = 15 ∧ t.armed = false ∧
    (t.result = .rejTimeout ∨ t.result = .rejIntegrity ∨ t.result = .rejDeadline) := by
  rcases step_result_cases hrst h with ⟨_, hnot, _⟩ | ⟨_, _, _, hnot⟩ | ⟨hs, ht, ⟨f, hres⟩, _⟩
  · exact absurd (hnot.symm.trans hv) (by decide)
  · exact absurd (hnot.symm.trans hv) (by decide)
  · refine ⟨ht, (step_entered hrst h (j := .done) ht hs).2, ?_⟩
    cases f <;> simp [hres, Failure.result]

theorem bit_tick_of_step (hbt : t.dbgBitTick = true) : (t.stepReg = 7 ∨ t.stepReg = 12) ∧ t.armed = false := by
  have entered {j : Instr} (hs : s.stepReg = 11) (ht : t.stepReg = encode j) (hj : encode j ≠ 11) :
      t.armed = false := (step_entered hrst h ht fun hsj => hj (hsj.symm.trans hs)).2
  rcases step_bit_cases hrst h with ⟨_, _, hnot, _⟩ | ⟨_, _, _, _, hnot⟩ | ⟨hs, h7, _⟩ | ⟨hs, h12, _⟩
  · exact absurd (hnot.symm.trans hbt) (by decide)
  · exact absurd (hnot.symm.trans hbt) (by decide)
  · exact ⟨.inl h7, entered (j := .brRetMark) hs h7 (by decide)⟩
  · exact ⟨.inr h12, entered (j := .zRetSpace) hs h12 (by decide)⟩

theorem poll_tick_of_step (hp : t.dbgPollTick = true) :
    elapsed t.now t.wt = 1 ∧
    ((t.armed = true ∧ ∃ l, t.row.kind = .wait l) ∨
      (t.armed = false ∧
        (t.stepReg = 0 ∨ (t.stepReg = 12 ∧ t.dbgBitTick = true) ∨ (t.stepReg = 15 ∧ t.rejectValid = true)))) := by
  obtain ⟨ha, l, hk⟩ := (step_dbgPollTick_iff hrst h).mp hp
  obtain ⟨u, rfl, ⟨hctrl, _⟩ | ⟨_, hu⟩⟩ := tick_cases hrst h
  · simp [hk] at hctrl
  · cases hu with
    | stays harmed => exact absurd (ha.symm.trans harmed) (by decide)
    | succeeds harmed => exact absurd (ha.symm.trans harmed) (by decide)
    | fails harmed => exact absurd (ha.symm.trans harmed) (by decide)
    | arms =>
      refine ⟨elapsed_eq_one (s := s) (by simp) (by simp), .inl ⟨rfl, l, ?_⟩⟩
      simpa [State.row] using hk
    | failsAtOnce _ hf =>
      refine ⟨elapsed_eq_one (s := s) (by simp) (by simp), .inr ⟨failState_armed (by simpa using hf), ?_⟩⟩
      exact failState_of_wait (l := l) (by simpa [State.row] using hk)

end pulses

namespace Inv

section facts

variable {s : State} (hinv : Inv s)
include hinv

theorem windowHeld : s.windowHeld := fun ha => (hinv.armed_window ha).2.1

theorem waited_le : s.waited ≤ s.row.window := by
  cases ha : s.armed with
  | false => simp [waited_of_not_armed ha]
  | true => exact (hinv.armed_window ha).2.2.2

theorem idx_le (h : allBitsAssembled s.idx = false) : s.idx.toNat ≤ 31 := by
  refine hinv.idx_range.resolve_right fun h63 => ?_
  rw [h63] at h
  exact absurd h (by decide)

theorem idx_eq (h : allBitsAssembled s.idx = true) : s.idx = 63 :=
  hinv.idx_range.resolve_left fun hle => by simp [allBitsAssembled_eq_false hle] at h

theorem ones_le : s.ones ≤ bitsClassified s.idx := by
  rcases hinv.idx_range with hle | h63
  · rw [bitsClassified_of_le hle]
    exact onesIn_le _ _ hle (hinv.raw_unclassified hle)
  · rw [h63, bitsClassified_63]
    exact onesIn_le_32 _

/-- During an attempt the frame timer has run no longer than the deadline allows the whole visit. -/
theorem elapsed_le (hd : s.decoding) :
    (elapsed s.now s.ft).toNat ≤ s.config.params.deadlineBound (decode s.stepReg) + s.row.window := by
  obtain ⟨_, _, _, hle⟩ := hinv.frame_timer hd
  have := hinv.waited_le
  omega

/-- So one tick later it has counted one more. -/
theorem elapsed_succ (hd : s.decoding) :
    (elapsed (s.now + 1) s.ft).toNat = (elapsed s.now s.ft).toNat + 1 := by
  have hi := decoding_iff_decode.mp hd
  have hbound := s.config.deadlineBound_add_window_lt hi
  exact Machine.elapsed_succ _ _ (Nat.lt_of_le_of_lt (hinv.elapsed_le hd) hbound)

end facts

section tick

variable {s t : State} (hinv : Inv s) (hrst : s.pins.rst = false) (h : step s = .next t)
include hinv hrst h

theorem armed_window_step (ha : t.armed = true) :
    t.row.kind ≠ .ctrl ∧ t.wt.dur = BitVec.ofNat 32 t.row.window ∧ 1 ≤ t.waited ∧ t.waited ≤ t.row.window := by
  rcases continues_or_leaves hrst hinv.windowHeld h with hc | hl
  · have hrow : t.row = s.row := by rw [State.row, State.row, hc.stepReg, config_step h]
    have hlt := hc.window
    rw [hrow, hc.waited]
    exact ⟨hc.timed, hc.dur, by omega, hlt⟩
  · exact absurd (hl.armed.symm.trans ha) (by simp)

theorem idx_range_step : t.idx.toNat ≤ 31 ∨ t.idx = 63 := by
  rcases step_bit_cases hrst h with ⟨_, hidx, _⟩ | ⟨_, _, _, hidx, _⟩ | ⟨hs, _, _, hidx, _⟩ | ⟨hs, _, _, hidx, _⟩ <;>
    rw [hidx]
  · exact hinv.idx_range
  · exact .inl (by decide)
  all_goals
    have hle := hinv.bit_left hs
    exact (idx_pred_range hle).imp_left fun hlt => by omega

theorem first_burst_step (ht : t.stepReg = 6) : t.idx = 31 := by
  rcases step_bit_cases hrst h with ⟨_, hidx, _, h5, _⟩ | ⟨_, _, _, hidx, _⟩ | ⟨_, h7, _⟩ | ⟨_, h12, _⟩
  · rw [hidx]
    refine hinv.first_burst (not_not.mp fun h6 => h5 ?_)
    exact decode_eq_iff.mp (eq_predecessor (step_entered hrst h (j := .fbWaitMark) ht h6).1 (by simp))
  · exact hidx
  · exact absurd (ht.symm.trans h7) (by decide)
  · exact absurd (ht.symm.trans h12) (by decide)

theorem bit_left_step (ht : t.stepReg = 11) : t.idx.toNat ≤ 31 := by
  rcases step_bit_cases hrst h with ⟨_, hidx, _⟩ | ⟨_, h6, _⟩ | ⟨_, h7, _⟩ | ⟨_, h12, _⟩
  · rw [hidx]
    by_cases h11 : s.stepReg = 11
    · exact hinv.bit_left h11
    · have hs : s.stepReg = 10 :=
        decode_eq_iff.mp (eq_predecessor (step_entered hrst h (j := .bitWaitMark) ht h11).1 (by simp))
      rcases step_of_bitHead hrst h hs with ⟨_, h14⟩ | ⟨_, _, h15⟩ | ⟨hall, _⟩
      · exact absurd (ht.symm.trans h14) (by decide)
      · exact absurd (ht.symm.trans h15) (by decide)
      · exact hinv.idx_le hall
  · exact absurd (ht.symm.trans h6) (by decide)
  · exact absurd (ht.symm.trans h7) (by decide)
  · exact absurd (ht.symm.trans h12) (by decide)

theorem zero_counted_step (ht : t.stepReg = 12 ∨ t.stepReg = 13) : 1 ≤ t.zeros := by
  rcases step_bit_cases hrst h with ⟨hraw, hidx, _, _, h11⟩ | ⟨_, h6, _⟩ | ⟨_, h7, _⟩ | ⟨hs, _, hraw, hidx, _⟩
  · rw [(counts_of_eq hraw hidx).2]
    refine hinv.zero_counted (ht.elim (fun h12 => ?_) (fun h13 => ?_))
    · refine .inl (not_not.mp fun hne => ?_)
      have hs : s.stepReg = 11 :=
        decode_eq_iff.mp (eq_predecessor (step_entered hrst h (j := .zRetSpace) h12 hne).1 (by simp))
      exact absurd ((h11 hs).symm.trans h12) (by decide)
    · refine or_iff_not_imp_right.mpr fun hne => ?_
      exact decode_eq_iff.mp (eq_predecessor (step_entered hrst h (j := .zWaitMark) h13 hne).1 (by simp))
  · rw [h6] at ht
    exact absurd ht (by decide)
  · rw [h7] at ht
    exact absurd ht (by decide)
  · rw [(counts_of_zero (hinv.bit_left hs) hinv.ones_le hraw hidx).2]
    omega

theorem all_bits_step (ht : t.stepReg = 14) : t.idx = 63 := by
  have hs : s.stepReg = 10 := by
    rcases step_target_cases hrst h with ⟨hk, hstay⟩ | ⟨htarget, _⟩
    · exact absurd (kind_eq_ctrl.mpr (.inr (.inr (.inr (decode_eq_iff.mpr (hstay.symm.trans ht)))))) hk
    · have hcheck : decode t.stepReg = .check := decode_eq_iff.mpr ht
      rw [hcheck] at htarget
      exact decode_eq_iff.mp (eq_predecessor htarget (by simp))
  have hidx := (step_keeps_bits hrst h (by simp [hs]) (by simp [hs])).2
  rcases step_of_bitHead hrst h hs with ⟨hall, _⟩ | ⟨_, _, h15⟩ | ⟨_, _, h11⟩
  · exact hidx.trans (hinv.idx_eq hall)
  · exact absurd (ht.symm.trans h15) (by decide)
  · exact absurd (ht.symm.trans h11) (by decide)

theorem raw_unclassified_step (hle : t.idx.toNat ≤ 31) (j : Nat) (hj : j ≤ t.idx.toNat) :
    t.raw.getLsbD j = false := by
  have hlt (hs : s.stepReg = 11) (hidx : t.idx = s.idx - 1) : t.idx.toNat < s.idx.toNat := by
    rw [hidx] at hle ⊢
    refine (idx_pred_range (hinv.bit_left hs)).resolve_right fun h63 => ?_
    rw [h63] at hle
    exact absurd hle (by decide)
  rcases step_bit_cases hrst h with ⟨hraw, hidx, _⟩ | ⟨_, _, hraw, _⟩ | ⟨hs, _, hraw, hidx, _⟩ |
    ⟨hs, _, hraw, hidx, _⟩ <;> rw [hraw]
  · exact hinv.raw_unclassified (hidx ▸ hle) j (hidx ▸ hj)
  · exact BitVec.getLsbD_zero
  · have hlt := hlt hs hidx
    have hs31 := hinv.bit_left hs
    rw [Nat.mod_eq_of_lt (by omega), getLsbD_setBit _ _ _ (by omega),
      hinv.raw_unclassified hs31 j (by omega)]
    simp only [Bool.false_or, decide_eq_false_iff_not]
    omega
  · have hlt := hlt hs hidx
    exact hinv.raw_unclassified (hinv.bit_left hs) j (by omega)

theorem done_result_step (ht : t.stepReg = 15) : t.result ≠ .none := by
  rcases step_result_cases hrst h with ⟨hres, _, hstep⟩ | ⟨_, _, hres, _⟩ | ⟨_, _, ⟨f, hres⟩, _⟩
  · rw [hres]
    exact hinv.done_result (not_not.mp fun hs => hstep hs ht)
  · simp [hres]
  · cases f <;> simp [hres, Failure.result]

/-- The bound of the windows where an attempt goes from one step to the next. -/
theorem armBound_move {j : Instr} (hmove : AttemptMove (decode s.stepReg) j) (ht : t.stepReg = encode j)
    (h5 : s.stepReg ≠ 5) :
    s.config.params.armBound s.zeros s.ones (decode s.stepReg) + s.row.window <
      s.config.params.armBound t.zeros t.ones j := by
  rcases step_bit_cases hrst h with ⟨hraw, hidx, _, _, hstay⟩ | ⟨hs, _⟩ | ⟨hs, h7, hraw, hidx, _⟩ |
    ⟨hs, h12, hraw, hidx, _⟩
  · obtain ⟨hones, hzeros⟩ := counts_of_eq hraw hidx
    rw [hones, hzeros]
    refine s.config.params.armBound_add_window_lt hmove (fun hbit => ?_) fun hz => ?_
    · have h11 : encode j = encode .bitWaitMark := ht.symm.trans (hstay (decode_eq_iff.mp hbit))
      rw [hbit, encode_injective h11] at hmove
      cases hmove
    · exact hinv.zero_counted (.inr (decode_eq_iff.mp hz))
  · exact absurd hs h5
  · have hle := hinv.bit_left hs
    obtain ⟨hones, hzeros⟩ := counts_of_one hle (hinv.raw_unclassified hle _ (Nat.le_refl _)) hraw hidx
    have hi : decode s.stepReg = .bitWaitMark := decode_eq_iff.mpr hs
    obtain rfl : j = .brRetMark := encode_injective (ht.symm.trans h7)
    rw [State.row, hones, hzeros, hi]
    exact (s.config.params.armBound_classify _ _).1
  · obtain ⟨hones, hzeros⟩ := counts_of_zero (hinv.bit_left hs) hinv.ones_le hraw hidx
    have hi : decode s.stepReg = .bitWaitMark := decode_eq_iff.mpr hs
    obtain rfl : j = .zRetSpace := encode_injective (ht.symm.trans h12)
    rw [State.row, hones, hzeros, hi]
    exact (s.config.params.armBound_classify _ _).2

/-- The bound of the deadline where an attempt goes from one step to the next. -/
theorem elapsed_lt_deadlineBound_move {j : Instr} (hd : s.decoding) (hmove : AttemptMove (decode s.stepReg) j)
    (ht : t.stepReg = encode j) : (elapsed s.now s.ft).toNat < s.config.params.deadlineBound j := by
  by_cases hhead : decode s.stepReg = .bitHead ∧ j = .bitWaitMark
  · obtain ⟨hs, rfl⟩ := hhead
    have hdur := (hinv.frame_timer hd).1
    rcases step_of_bitHead hrst h (decode_eq_iff.mp hs) with ⟨_, h14⟩ | ⟨_, _, h15⟩ | ⟨_, hexp, _⟩
    · exact absurd (ht.symm.trans h14) (by decide)
    · exact absurd (ht.symm.trans h15) (by decide)
    · have hlt := (not_expired_iff s.now s.ft).mp hexp
      rwa [hdur, toNat_duration s.config (by simp [Params.durations])] at hlt
  · exact Nat.lt_of_le_of_lt (hinv.elapsed_le hd) (s.config.params.deadlineBound_add_window_lt hmove hhead)

theorem frame_timer_step (hd : t.decoding) :
    t.ft.dur = BitVec.ofNat 32 t.config.params.tFrame ∧
    1 ≤ (elapsed t.now t.ft).toNat ∧
    (elapsed t.now t.ft).toNat ≤ t.config.params.armBound t.zeros t.ones (decode t.stepReg) + t.waited ∧
    (elapsed t.now t.ft).toNat ≤ t.config.params.deadlineBound (decode t.stepReg) + t.waited := by
  obtain ⟨hconfig, hnow, _, _⟩ := step_frame hrst h
  rcases step_ft_cases hrst h with ⟨hft, h5⟩ | ⟨h5, hft⟩
  · have hj := decoding_iff_decode.mp hd
    rw [hconfig, hft, hnow]
    rcases continues_or_leaves hrst hinv.windowHeld h with hc | hl
    · have hs : s.decoding := by rwa [State.decoding, ← hc.stepReg]
      obtain ⟨hdur, hone, harm, hdead⟩ := hinv.frame_timer hs
      have hbits : t.raw = s.raw ∧ t.idx = s.idx := by
        rcases step_bit_cases hrst h with ⟨hraw, hidx, _⟩ | ⟨hs, _⟩ | ⟨hs, h7, _⟩ | ⟨hs, h12, _⟩
        · exact ⟨hraw, hidx⟩
        · exact absurd hs h5
        · exact absurd (h7.symm.trans (hc.stepReg.trans hs)) (by decide)
        · exact absurd (h12.symm.trans (hc.stepReg.trans hs)) (by decide)
      obtain ⟨hones, hzeros⟩ := counts_of_eq hbits.1 hbits.2
      rw [hinv.elapsed_succ hs, hones, hzeros, hc.stepReg, hc.waited]
      exact ⟨hdur, by omega, by omega, by omega⟩
    · have hi : readsAttempt (decode s.stepReg) = true :=
        (readsAttempt_of_target hl.target hj).resolve_left fun hi => h5 (decode_eq_iff.mp hi)
      have hs : s.decoding := decoding_iff_decode.mpr hi
      obtain ⟨hdur, hone, harm, _⟩ := hinv.frame_timer hs
      have hmove := attemptMove_of_target hi hj hl.target
      have ht := (encode_decode t.stepReg).symm
      have hnextArm := hinv.armBound_move hrst h hmove ht h5
      have hnextDead := hinv.elapsed_lt_deadlineBound_move hrst h hs hmove ht
      have hwaited := hinv.waited_le
      rw [hinv.elapsed_succ hs, waited_of_not_armed hl.armed]
      exact ⟨hdur, by omega, by omega, by omega⟩
  · have h6 : t.stepReg = 6 := by
      rcases step_bit_cases hrst h with ⟨_, _, _, hne, _⟩ | ⟨_, h6, _⟩ | ⟨h11, _⟩ | ⟨h11, _⟩
      · exact absurd h5 hne
      · exact h6
      · exact absurd (h5.symm.trans h11) (by decide)
      · exact absurd (h5.symm.trans h11) (by decide)
    have hj : decode t.stepReg = .fbWaitMark := decode_eq_iff.mpr h6
    rw [hconfig, hft, hnow, hj, elapsed_start]
    refine ⟨rfl, ?_, ?_, ?_⟩ <;> simp [Params.armBound, Params.deadlineBound]

end tick
end Inv

/-- The registers' reset values meet the invariant, in every block. -/
theorem inv_resetOf (c : Config) (w : List PinInput) (k : Nat) : Inv (State.resetOf c w k) where
  armed_window := nofun
  idx_range := .inl (show (31#6).toNat ≤ 31 by decide)
  first_burst := nofun
  bit_left := nofun
  zero_counted h := absurd h (show ¬ ((0 : BitVec 4) = 12 ∨ (0 : BitVec 4) = 13) by decide)
  all_bits := nofun
  raw_unclassified _ _ _ := BitVec.getLsbD_zero
  frame_timer hd := absurd hd.1 (show ¬ 6 ≤ (0 : BitVec 4).toNat by decide)
  done_result := nofun
  frame_valid := nofun
  reject_valid := nofun
  bit_tick := nofun
  poll_tick := nofun

/-- Every tick keeps the invariant. -/
theorem Inv.step {s t : State} (hinv : Inv s) (h : step s = .next t) : Inv t := by
  rcases step_cases h with ⟨_, rfl⟩ | ⟨hrst, _⟩
  · exact inv_resetOf _ _ _
  · exact
      { armed_window := hinv.armed_window_step hrst h
        idx_range := hinv.idx_range_step hrst h
        first_burst := hinv.first_burst_step hrst h
        bit_left := hinv.bit_left_step hrst h
        zero_counted := hinv.zero_counted_step hrst h
        all_bits := hinv.all_bits_step hrst h
        raw_unclassified := hinv.raw_unclassified_step hrst h
        frame_timer := hinv.frame_timer_step hrst h
        done_result := hinv.done_result_step hrst h
        frame_valid := frame_valid_of_step hrst h
        reject_valid := reject_valid_of_step hrst h
        bit_tick := bit_tick_of_step hrst h
        poll_tick := poll_tick_of_step hrst h }

/-- Settles O40: `Inv.step`, a clause of `Inv` at a time. -/
theorem invariantIsKeptByEveryTick : Obligations.InvariantIsKeptByEveryTick :=
  fun _ _ hinv h => hinv.step h

/-- Settles O39: a tick with `rst` 1 answers `State.resetOf`, which meets every clause. -/
theorem invariantHoldsAfterReset : Obligations.InvariantHoldsAfterReset := by
  refine ⟨inv_resetOf _ _ _, fun s t hrst h => ?_⟩
  rcases step_cases h with ⟨_, rfl⟩ | ⟨hr, _⟩
  · exact inv_resetOf _ _ _
  · exact absurd (hr.symm.trans hrst) (by decide)

end Sys2Proof.Machine
end

section
/-! The tick and reset (42_wait_and_retain.md R135, 70_reset_and_hazards.md), and each step's rule as a whole next
state. -/

namespace Sys2Proof.Machine

/-- Settles O3: a tick with `rst` 0 is `exec` between `beginTick` and `endTick`. -/
theorem tickRunsTheDecodedStep : Obligations.TickRunsTheDecodedStep := by
  intro s u i hrst hi hx
  exact step_of_exec hrst (hi ▸ hx)

theorem step_of_rst {s : State} (hrst : s.pins.rst = true) : step s = .next (resetTick s) := by
  simp [step, hrst]

/-- Settles O4: the reset tick is `State.resetOf`. -/
theorem resetTickWritesEveryRegister : Obligations.ResetTickWritesEveryRegister :=
  fun _ => step_of_rst

/-- IDLE goes on to LB_WAIT_MARK, whatever the sample (43_leading_burst.md R160). -/
theorem step_of_idle {s : State} (hrst : s.pins.rst = false) (hs : s.stepReg = 0) :
    step s = .next (endTick (goto .lbWaitMark (beginTick s))) := by
  apply step_of_exec hrst
  rw [hs]
  exact exec_idle (beginTick s)

/-- Settles O5: the reset values are read off `State.resetOf`, and the open threshold is 1 more than a number below
511. -/
theorem resetStateAndFirstTick : Obligations.ResetStateAndFirstTick := by
  have hfree := Config.freeLowThreshold.isLt
  refine ⟨⟨rfl, rfl, rfl, rfl, rfl, rfl, rfl, rfl, rfl, rfl, rfl, rfl, rfl, rfl, rfl⟩,
    ⟨1 + Config.freeLowThreshold.val, by omega, by omega, rfl⟩, fun p hrst =>
    ⟨_, step_of_idle (s := { State.reset with waveform := [p] }) hrst rfl, rfl, rfl, rfl⟩⟩

/-- Settles O14: IDLE is `goto LB_WAIT_MARK`. -/
theorem idleStartsAPreambleAttempt : Obligations.IdleStartsAPreambleAttempt := exec_idle

/-- Settles O15: both are `runWait` with the operands of their rows. -/
theorem preambleEdgeWaits : Obligations.PreambleEdgeWaits := ⟨exec_lbWaitMark, exec_lbWaitSpace⟩

/-- Settles O16: both are `runRetain` with the operands of their rows. -/
theorem preambleRetentions : Obligations.PreambleRetentions := ⟨exec_lbRetMark, exec_lbRetSpace⟩

/-- Settles O17: DEC_INIT's writes, read off `exec`. -/
theorem decodeInitialisation : Obligations.DecodeInitialisation := exec_decInit

/-- Settles O18: all three are `runWait` with the operands of their rows. -/
theorem decodeEdgeWaits : Obligations.DecodeEdgeWaits := ⟨exec_fbWaitMark, exec_brWaitSpace, exec_zWaitMark⟩

/-- Settles O19: all three are `runRetain` with the operands of their rows. -/
theorem decodeRetentions : Obligations.DecodeRetentions := ⟨exec_brRetMark, exec_brRetSpace, exec_zRetSpace⟩

/-- Settles O20: `exec_bitHead`, whose outcomes are a `goto` or the failure entry. -/
theorem bitLoopHead : Obligations.BitLoopHead := exec_bitHead

/-- Settles O21: BIT_WAIT_MARK is `runWait`, and `idx[4:0]` is `idx` modulo 32. -/
theorem bitClassification : Obligations.BitClassification := by
  intro s
  rw [exec_bitWaitMark, classifyOne_eq_succeedState]
  rfl

/-- The low 8 bits of a word are all 1 exactly when the byte is `0xFF`. -/
theorem and_ff_eq_iff (x : Word) : x &&& 0xFF#32 = 0xFF#32 ↔ x.setWidth 8 = 0xFF#8 := by
  simp only [← BitVec.toNat_inj, BitVec.toNat_and, BitVec.toNat_setWidth, BitVec.toNat_ofNat]
  rw [show 255 % 2 ^ 32 = 2 ^ 8 - 1 from rfl, Nat.and_two_pow_sub_one_eq_mod]
  exact Iff.rfl

/-- The integrity check on the shifted word, with the low byte masked out (45_integrity_and_frame_loop.md R211). -/
theorem frameOk_iff_masks (raw : Word) : frameOk raw = true ↔
    ((raw >>> 24 ^^^ raw >>> 16) &&& 0xFF#32 = 0xFF#32) ∧ ((raw >>> 8 ^^^ raw) &&& 0xFF#32 = 0xFF#32) := by
  simp only [frameOk_eq_shifts, Bool.and_eq_true, checkIntegrity_iff_xor, and_ff_eq_iff, BitVec.setWidth_xor]

/-- Settles O22: the masks on the shifted word are `frameOk`, and the shifted bytes are its fields. -/
theorem integrityCheckStep : Obligations.IntegrityCheckStep := by
  intro s
  simp only [exec_check, frameOk_iff_masks, ← addressField_eq_shift, ← dataField_eq_shift]
  rfl

/-- Settles O44: the phase of each of the 16 step codes is evaluated. -/
theorem outputPortsShowTheRegisters : Obligations.OutputPortsShowTheRegisters := by
  intro s
  refine ⟨rfl, rfl, rfl, rfl, rfl, rfl, by unfold State.outputs; cases s.result <;> rfl, ?_⟩
  obtain ⟨i, hi⟩ : ∃ i, s.stepReg = encode i := ⟨_, (encode_decode _).symm⟩
  simp only [State.outputs, State.phase, hi, decode_encode]
  cases i
  case done => by_cases hres : s.result = .accepted <;> simp [encode, Phase.code, hres]
  all_goals rfl

end Sys2Proof.Machine
end

section
/-! Legal configurations (00_scope.md R8, R9): what `Params.legal` refuses, and the answer of `build`. -/

namespace Sys2Proof.Machine

/-- Outside the legal values of 00_scope.md R8 and R9. -/
def IsIllegal (p : Params) : Prop :=
  p.adcBits < 2 ∨ 16 < p.adcBits ∨ p.lowThreshold = 0 ∨ 2 * p.lowThreshold > p.fullScale ∨
    (∃ d ∈ p.durations, d = 0 ∨ d ≥ 2 ^ 31) ∨ p.eMax ≥ 2 ^ 32

theorem adcBitsLegal_iff (p : Params) : p.adcBitsLegal = true ↔ ¬ p.adcBits < 2 ∧ ¬ 16 < p.adcBits := by
  simp only [Params.adcBitsLegal, Bool.and_eq_true, decide_eq_true_eq]
  omega

theorem thresholdLegal_iff (p : Params) :
    p.thresholdLegal = true ↔ p.lowThreshold ≠ 0 ∧ ¬ 2 * p.lowThreshold > p.fullScale := by
  simp only [Params.thresholdLegal, Bool.and_eq_true, decide_eq_true_eq]
  omega

theorem durationsLegal_iff (p : Params) : p.durationsLegal = true ↔ ¬ ∃ d ∈ p.durations, d = 0 ∨ d ≥ 2 ^ 31 := by
  simp only [Params.durationsLegal, List.all_eq_true, Bool.and_eq_true, decide_eq_true_eq, not_exists, not_and]
  exact forall₂_congr fun d _ => by omega

theorem frameTimerLegal_iff (p : Params) : p.frameTimerLegal = true ↔ ¬ p.eMax ≥ 2 ^ 32 := by
  simp [Params.frameTimerLegal]

theorem legal_iff (p : Params) : p.legal = true ↔ ¬ IsIllegal p := by
  simp only [Params.legal, Bool.and_eq_true, adcBitsLegal_iff, thresholdLegal_iff, durationsLegal_iff,
    frameTimerLegal_iff, IsIllegal, not_or, ne_eq]
  tauto

theorem build_of_legal {p : Params} (h : p.legal = true) (w : List PinInput) :
    build p w = .next (State.resetOf ⟨p, h⟩ w 0) := by
  simp [build, h]

theorem build_of_not_legal {p : Params} (h : ¬ p.legal = true) (w : List PinInput) :
    build p w = .refused .illegalConfiguration := by
  simp [build, h]

/-- Settles O6: `build` asks `Params.legal`, whose four checks are the clauses of `IsIllegal`. -/
theorem illegalConfigurationsAreRefused : Obligations.IllegalConfigurationsAreRefused := by
  intro p w
  refine ⟨fun hill => build_of_not_legal (fun h => (legal_iff p).mp h hill) w, fun hleg => ?_⟩
  have h := (legal_iff p).mpr hleg
  exact ⟨⟨p, h⟩, rfl, build_of_legal h w⟩

end Sys2Proof.Machine
end

section
/-! Levels, timers and waveform segments (40_level_sampler.md, 41_deadline_timer.md, 30_encoding.md R94). -/

namespace Sys2Proof.Machine

/-- No reading is both below `LOW_THRESHOLD` and above `HIGH_THRESHOLD` (40_level_sampler.md R113). -/
theorem not_isMark_and_isNonMark (c : Config) (x : Nat) : ¬ (isMark c x = true ∧ isNonMark c x = true) := by
  obtain ⟨_, hhalf⟩ := c.threshold_range
  rw [isMark_iff, isNonMark_iff]
  omega

theorem levelOf_code (c : Config) (x : Nat) :
    (levelOf c x).code = BitVec.ofBool (isNonMark c x) ++ BitVec.ofBool (isMark c x) := by
  have hnot := not_isMark_and_isNonMark c x
  unfold levelOf
  cases hm : isMark c x <;> cases hn : isNonMark c x
  case true.true => exact absurd ⟨hm, hn⟩ hnot
  all_goals rfl

theorem levelOf_eq_mark_iff (c : Config) (x : Nat) : levelOf c x = .mark ↔ x < c.params.lowThreshold := by
  rw [← isMark_iff]
  unfold levelOf
  cases isMark c x <;> cases isNonMark c x <;> simp

theorem levelOf_eq_nonMark_iff (c : Config) (x : Nat) :
    levelOf c x = .nonMark ↔ c.params.fullScale - c.params.lowThreshold < x := by
  have hnot := not_isMark_and_isNonMark c x
  rw [← isNonMark_iff]
  unfold levelOf
  cases hm : isMark c x <;> cases hn : isNonMark c x <;> simp_all

theorem levelOf_eq_indeterminate_iff (c : Config) (x : Nat) : levelOf c x = .indeterminate ↔
    c.params.lowThreshold ≤ x ∧ x ≤ c.params.fullScale - c.params.lowThreshold := by
  rw [← isMark_eq_false_iff, ← isNonMark_eq_false_iff]
  unfold levelOf
  cases isMark c x <;> cases isNonMark c x <;> simp

theorem pinsAt_of_waveform {s : State} {k : Nat} {p : PinInput} (h : s.waveform[k]? = some p) :
    s.pinsAt k = p := by
  simp [State.pinsAt, h]

/-- Settles O8: the level is one of three exclusive ranges of the reading, and a tick moves the input on by one. -/
theorem levelCodeJoinsThePredicates : Obligations.LevelCodeJoinsThePredicates :=
  ⟨fun c x => ⟨levelOf_code c x, not_isMark_and_isNonMark c x, levelOf_eq_indeterminate_iff c x⟩,
    fun _ _ => rfl,
    fun _ k => ⟨rfl, rfl, rfl, fun _ hp => pinsAt_of_waveform hp, fun _ hstep => levelAt_step hstep k⟩⟩

theorem toNat_elapsed (now : Word) (t : Timer) :
    (elapsed now t).toNat = (now.toNat + (2 ^ 32 - t.start.toNat)) % 2 ^ 32 := by
  rw [elapsed, BitVec.toNat_sub, Nat.add_comm]

/-- `n` ticks after its start a timer has counted `n`, modulo 2^32 (41_deadline_timer.md R122). -/
theorem toNat_elapsed_after (start dur : Word) (n : Nat) :
    (elapsed (start + BitVec.ofNat 32 n) ⟨start, dur⟩).toNat = n % 2 ^ 32 := by
  rw [elapsed, add_sub_cancel_left, BitVec.toNat_ofNat]

/-- Settles O9: both starts write the current time and a window that fits in 32 bits. -/
theorem elapsedCountsTicksSinceStart : Obligations.ElapsedCountsTicksSinceStart := by
  refine ⟨toNat_elapsed, fun s w n hw => ?_⟩
  have hdur : (BitVec.ofNat 32 w).toNat = w := by rw [BitVec.toNat_ofNat, Nat.mod_eq_of_lt hw]
  exact ⟨rfl, rfl, hdur, hdur, toNat_elapsed_after _ _ n, toNat_elapsed_after _ _ n⟩

/-- Settles O10: `expired` is a comparison of numbers, and `elapsed` a known one. -/
theorem expiryIsModularAndLasts : Obligations.ExpiryIsModularAndLasts := by
  intro now t
  have hafter (n : Nat) (hn : n < 2 ^ 32) : (elapsed (t.start + BitVec.ofNat 32 n) t).toNat = n := by
    rw [toNat_elapsed_after t.start t.dur, Nat.mod_eq_of_lt hn]
  refine ⟨expired_iff now t, fun hsum hpast => ?_, fun n hdur hn => ?_, fun n hn => ?_⟩
  · have hnow := now.isLt
    rw [expired_iff, toNat_elapsed]
    omega
  · rw [expired_iff, hafter n hn]
    exact hdur
  · rw [not_expired_iff, hafter n (Nat.lt_trans hn t.dur.isLt)]
    exact hn

/-- A block reads the whole of a value that fits in its `ADC_BITS` wires. -/
theorem readingOf_ofNat (c : Config) {v : Nat} (hv : v ≤ c.params.fullScale) :
    readingOf c (BitVec.ofNat 16 v) = v := by
  obtain ⟨_, hbits⟩ := c.adcBits_range
  have hpow : 2 ^ c.params.adcBits ≤ 2 ^ 16 := Nat.pow_le_pow_right (by decide) hbits
  have hpos : 0 < 2 ^ c.params.adcBits := Nat.two_pow_pos _
  unfold Params.fullScale at hv
  rw [readingOf, BitVec.toNat_ofNat, Nat.mod_eq_of_lt (a := v) (by omega), Nat.mod_eq_of_lt (by omega)]

/-- The pins of a segment that presents a reading of the block. -/
theorem segment_pins {c : Config} {g : Segment} {p : PinInput} (hp : p ∈ g.expand c.params)
    (hv : g.reading c.params ≤ c.params.fullScale) :
    p.rst = false ∧ readingOf c p.adcIn = g.reading c.params := by
  obtain rfl := List.eq_of_mem_replicate hp
  exact ⟨rfl, readingOf_ofNat c hv⟩

theorem segment_length (g : Segment) (p : Params) : (g.expand p).length = g.length := List.length_replicate

/-- Settles O45: the reading of each segment lies in the range of its level. -/
theorem waveformSegmentsHaveTheirLevels : Obligations.WaveformSegmentsHaveTheirLevels := by
  intro c n p
  obtain ⟨hlow, hhalf⟩ := c.threshold_range
  refine ⟨fun hp => ?_, fun hp => ?_, fun hp => ?_, segment_length _ _, segment_length _ _, segment_length _ _⟩
  · obtain ⟨hrst, hread⟩ := segment_pins hp (Nat.zero_le _)
    rw [hread, levelOf_eq_mark_iff]
    exact ⟨hrst, hlow⟩
  · obtain ⟨hrst, hread⟩ := segment_pins hp (Nat.le_refl c.params.fullScale)
    rw [hread, levelOf_eq_nonMark_iff]
    refine ⟨hrst, ?_⟩
    simp only [Segment.reading]
    omega
  · obtain ⟨hrst, hread⟩ := segment_pins hp (show (c.params.fullScale + 1) / 2 ≤ _ by omega)
    rw [hread, levelOf_eq_indeterminate_iff]
    refine ⟨hrst, ?_⟩
    simp only [Segment.reading]
    omega

end Sys2Proof.Machine
end

section
/-! Accepted words (45_integrity_and_frame_loop.md R211, R221): two bytes, each with its complement, so 16 ones; and
why a frame that meets the deadline was none (44_frame_decode.md R190). -/

namespace Sys2Proof.Machine

/-- A word is its four bytes. -/
theorem append_fields (raw : Word) :
    addressField raw ++ addressInvField raw ++ dataField raw ++ dataInvField raw = raw := by
  unfold addressField addressInvField dataField dataInvField
  rw [BitVec.extractLsb'_append_extractLsb'_eq_extractLsb' (start₂ := 24) (start₁ := 16) rfl,
    BitVec.extractLsb'_append_extractLsb'_eq_extractLsb' (start₂ := 16) (start₁ := 8) rfl,
    BitVec.extractLsb'_append_extractLsb'_eq_extractLsb' (start₂ := 8) (start₁ := 0) rfl]
  exact BitVec.extractLsb'_eq_self

theorem fields_append (a b c d : Byte) :
    addressField (a ++ b ++ c ++ d) = a ∧ addressInvField (a ++ b ++ c ++ d) = b ∧
    dataField (a ++ b ++ c ++ d) = c ∧ dataInvField (a ++ b ++ c ++ d) = d := by
  unfold addressField addressInvField dataField dataInvField
  refine ⟨?_, ?_, ?_, BitVec.extractLsb'_append_eq_right⟩
  · rw [BitVec.extractLsb'_append_eq_of_le (by decide), BitVec.extractLsb'_append_eq_of_le (by decide)]
    exact BitVec.extractLsb'_append_eq_left
  · rw [BitVec.extractLsb'_append_eq_of_le (by decide), BitVec.extractLsb'_append_eq_of_le (by decide)]
    exact BitVec.extractLsb'_append_eq_right
  · rw [BitVec.extractLsb'_append_eq_of_le (by decide)]
    exact BitVec.extractLsb'_append_eq_right

theorem frameOk_iff_fields (raw : Word) : frameOk raw = true ↔
    addressInvField raw = ~~~addressField raw ∧ dataInvField raw = ~~~dataField raw := by
  simp only [frameOk, Bool.and_eq_true, checkIntegrity_iff_eq_not]

theorem frameOk_iff_append (raw : Word) : frameOk raw = true ↔ ∃ a d : Byte, raw = a ++ ~~~a ++ d ++ ~~~d := by
  rw [frameOk_iff_fields]
  constructor
  · rintro ⟨haddr, hdata⟩
    refine ⟨addressField raw, dataField raw, ?_⟩
    rw [← haddr, ← hdata, append_fields]
  · rintro ⟨a, d, rfl⟩
    obtain ⟨ha, han, hd, hdn⟩ := fields_append a (~~~a) d (~~~d)
    rw [ha, han, hd, hdn]
    exact ⟨rfl, rfl⟩

/-- How many bits of a byte are 1. -/
def onesInByte (b : Byte) : Nat := (List.range 8).countP fun j => b.getLsbD j

/-- A byte and its complement have 8 ones between them. -/
theorem onesInByte_add_not (b : Byte) : onesInByte b + onesInByte (~~~b) = 8 := by
  have hnot : onesInByte (~~~b) = (List.range 8).countP fun j => ¬ b.getLsbD j := by
    refine List.countP_congr fun j hj => ?_
    simp [List.mem_range.mp hj]
  rw [hnot, onesInByte, ← List.length_eq_countP_add_countP, List.length_range]

/-- The ones of a word are those of its bytes. -/
theorem onesIn_eq_fields (raw : Word) : onesIn raw =
    onesInByte (dataInvField raw) + onesInByte (dataField raw) + onesInByte (addressInvField raw) +
      onesInByte (addressField raw) := by
  have hbyte (k : Nat) : onesInByte (raw.extractLsb' k 8) =
      ((List.range 8).map (k + ·)).countP fun j => raw.getLsbD j := by
    rw [List.countP_map]
    refine List.countP_congr fun j hj => ?_
    simp [List.mem_range.mp hj]
  have hsplit : List.range 32 = (List.range 8).map (0 + ·) ++ (List.range 8).map (8 + ·) ++
      (List.range 8).map (16 + ·) ++ (List.range 8).map (24 + ·) := by decide
  rw [onesIn, hsplit, List.countP_append, List.countP_append, List.countP_append, ← hbyte, ← hbyte, ← hbyte, ← hbyte]
  rfl

theorem onesIn_of_frameOk {raw : Word} (h : frameOk raw = true) : onesIn raw = 16 := by
  obtain ⟨haddr, hdata⟩ := (frameOk_iff_fields raw).mp h
  have ha := onesInByte_add_not (addressField raw)
  have hd := onesInByte_add_not (dataField raw)
  rw [onesIn_eq_fields, haddr, hdata]
  omega

/-- Settles O12: the two checks are two complement pairs, of 8 ones each. -/
theorem acceptedWordsAreComplementPairs : Obligations.AcceptedWordsAreComplementPairs :=
  fun raw => ⟨frameOk_iff_append raw, onesIn_of_frameOk⟩

/-- A word that agrees with another above bit `i` has no more ones than that, but for bits `i` to 0. -/
theorem onesIn_le_of_agree {raw final : Word} {i : Nat} (hi : i ≤ 31)
    (h : ∀ j, i < j → j < 32 → final.getLsbD j = raw.getLsbD j) : onesIn final ≤ onesIn raw + (i + 1) := by
  have hsplit : List.range 32 = List.range (i + 1) ++ (List.range (31 - i)).map (i + 1 + ·) := by
    rw [← List.range_add]
    congr 1
    omega
  have hlow : (List.range (i + 1)).countP (fun j => final.getLsbD j) ≤ i + 1 := by
    simpa using List.countP_le_length (p := fun j => final.getLsbD j) (l := List.range (i + 1))
  have hhigh : ((List.range (31 - i)).map (i + 1 + ·)).countP (fun j => final.getLsbD j) =
      ((List.range (31 - i)).map (i + 1 + ·)).countP (fun j => raw.getLsbD j) := by
    refine List.countP_congr fun j hj => ?_
    obtain ⟨k, hk, rfl⟩ := List.mem_map.mp hj
    have := List.mem_range.mp hk
    rw [h _ (by omega) (by omega)]
  rw [onesIn, onesIn, hsplit, List.countP_append, List.countP_append, hhigh]
  omega

theorem decoding_of_bitHead {s : State} (hs : s.stepReg = 10) : s.decoding := (decoding_iff (i := .bitHead) hs).mpr rfl

namespace Inv

variable {s : State} (hinv : Inv s) (hs : s.stepReg = 10) (hidx : s.idx.toNat ≤ 31)
include hinv hs

/-- Where BIT_HEAD reads the frame timer it holds the frame deadline (44_frame_decode.md R176). -/
theorem ft_dur_of_bitHead : s.ft.dur.toNat = s.config.params.tFrame := by
  rw [(hinv.frame_timer (decoding_of_bitHead hs)).1, toNat_duration s.config (by simp [Params.durations])]

/-- The windows bound the frame timer at BIT_HEAD (44_frame_decode.md R190). -/
theorem elapsed_le_headBound : (elapsed s.now s.ft).toNat ≤ s.config.params.headBound s.zeros s.ones := by
  obtain ⟨_, _, hle, _⟩ := hinv.frame_timer (decoding_of_bitHead hs)
  have hi : decode s.stepReg = .bitHead := decode_eq_iff.mpr hs
  have hunarmed : s.armed = false := Bool.eq_false_iff.mpr fun ha =>
    (hinv.armed_window ha).1 (kind_eq_ctrl.mpr (.inr (.inr (.inl hi))))
  rwa [hi, waited_of_not_armed hunarmed] at hle

include hidx

omit hs in
/-- As many bits were classified as `idx` has come down. -/
theorem zeros_add_ones : s.zeros + s.ones = 31 - s.idx.toNat := by
  have hle := hinv.ones_le
  unfold State.ones at hle
  rw [State.zeros, State.ones, ← bitsClassified_of_le hidx]
  omega

theorem elapsed_le_eMax : (elapsed s.now s.ft).toNat ≤ s.config.params.eMax := by
  have hle := hinv.elapsed_le_headBound hs
  have hcount := hinv.zeros_add_ones hidx
  have hone : s.config.params.oneIterationBound ≤ s.config.params.zeroIterationBound := by
    unfold Params.oneIterationBound Params.zeroIterationBound
    omega
  have hbits : s.config.params.zeroIterationBound * (s.zeros + s.ones) ≤
      s.config.params.zeroIterationBound * 31 := Nat.mul_le_mul_left _ (by omega)
  have hones := Nat.mul_le_mul_right s.ones hone
  rw [Nat.mul_add] at hbits
  unfold Params.headBound at hle
  unfold Params.eMax
  omega

/-- With the default windows the deadline passes only where 27 bits or more were 0 (44_frame_decode.md R190). -/
theorem zeros_of_deadline (hparams : s.config.params = Params.withDefaults s.config.params.lowThreshold)
    (hexp : expired s.now s.ft = true) : 27 ≤ s.zeros := by
  have hle := hinv.elapsed_le_headBound hs
  have hcount := hinv.zeros_add_ones hidx
  have hdur : s.config.params.tFrame = 58000 := by rw [hparams]; rfl
  have hlate : 58000 ≤ (elapsed s.now s.ft).toNat := by
    rwa [expired_iff, hinv.ft_dur_of_bitHead hs, hdur] at hexp
  unfold Params.headBound at hle
  rw [hparams, Params.withDefaults_firstHeadBound, Params.withDefaults_zeroIterationBound,
    Params.withDefaults_oneIterationBound] at hle
  omega

omit hs in
/-- No completion of a word with 27 zeros or more passes the check, which asks for 16 ones. -/
theorem frameOk_eq_false_of_zeros (hzeros : 27 ≤ s.zeros) {final : Word}
    (hagree : ∀ j, s.idx.toNat < j → j < 32 → final.getLsbD j = s.raw.getLsbD j) : frameOk final = false := by
  refine Bool.eq_false_iff.mpr fun hok => ?_
  have h16 := onesIn_of_frameOk hok
  have hle := onesIn_le_of_agree hidx hagree
  have hcount := hinv.zeros_add_ones hidx
  unfold State.ones at hcount
  omega

end Inv

/-- REJ_DEADLINE is raised at BIT_HEAD only with bits left and the frame deadline passed. -/
theorem expired_of_rejDeadline {s t : State} (hinv : Inv s) (hs : s.stepReg = 10)
    (hx : exec .bitHead s = .next t) (hrej : t.rejectValid = true) (hres : t.result = .rejDeadline) :
    expired s.now s.ft = true := by
  have hno : s.rejectValid = false := Bool.eq_false_iff.mpr fun hv =>
    absurd (hs.symm.trans (hinv.reject_valid hv).1) (by decide)
  cases ctrlTick_of_exec (i := .bitHead) rfl hx with
  | complete => exact absurd (hno.symm.trans hrej) (by decide)
  | deadline _ hexp => exact hexp
  | nextBit => exact absurd (hno.symm.trans hrej) (by decide)

/-- Settles O41: the windows bound the frame timer by the bits classified, so 58,000 ticks need 27 zeros, and a word
that passes has only 16. -/
theorem deadlineNeedsTwentySevenZeros : Obligations.DeadlineNeedsTwentySevenZeros := by
  intro s hinv hs hidx
  refine ⟨hinv.ft_dur_of_bitHead hs, hinv.elapsed_le_eMax hs hidx, fun t hparams hx hres hrej => ?_⟩
  have hzeros := hinv.zeros_of_deadline hs hidx hparams (expired_of_rejDeadline hinv hs hx hrej hres)
  exact ⟨hzeros, fun final hagree => hinv.frameOk_eq_false_of_zeros hidx hzeros hagree⟩

end Sys2Proof.Machine
end

section
/-! Runs of several ticks, and visits to a step (42_wait_and_retain.md R138): how a visit goes on, tick by tick, and how
it is left. Registers are compared by `State.timeless`, which leaves out what a visit changes whatever its outcome. -/

namespace Sys2Proof.Machine

/-! ### Runs -/

theorem run_add {n m : Nat} {s t u : State} (hn : run n s = .next t) (hm : run m t = .next u) :
    run (n + m) s = .next u := by
  induction n generalizing s with
  | zero =>
    injection hn with hn
    rw [Nat.zero_add, hn, hm]
  | succ n ih =>
    unfold run at hn
    rw [Nat.add_right_comm]
    unfold run
    obtain ⟨s', hs⟩ := step_total s
    simp only [hs] at hn ⊢
    exact ih hn

theorem config_run {n : Nat} {s t : State} (h : run n s = .next t) : t.config = s.config := by
  induction n generalizing s with
  | zero =>
    injection h with h
    rw [h]
  | succ n ih =>
    obtain ⟨s', hs⟩ := step_total s
    unfold run at h
    simp only [hs] at h
    rw [ih h, config_step hs]

theorem levelAt_run {n : Nat} {s t : State} (h : run n s = .next t) (k : Nat) : t.levelAt k = s.levelAt (n + k) := by
  simp only [State.levelAt, config_run h, pinsAt_run h]

theorem noReset_run {n m : Nat} {s t : State} (hno : s.noReset (n + m)) (h : run n s = .next t) : t.noReset m := by
  intro k hk
  rw [pinsAt_run h]
  exact hno (n + k) (by omega)

theorem noReset_mono {n m : Nat} {s : State} (hno : s.noReset n) (hm : m ≤ n) : s.noReset m :=
  fun k hk => hno k (Nat.lt_of_lt_of_le hk hm)

/-! ### The registers but for time -/

/-- `s` without the input, the time, the window timer, `armed` and the poll pulse. -/
def State.timeless (s : State) : State :=
  { s with waveform := [], ticks := 0, armed := false, now := 0, wt := ⟨0, 0⟩, dbgPollTick := false }

@[simp] theorem timeless_endTick (s : State) : (endTick s).timeless = s.timeless := rfl
@[simp] theorem timeless_arm (s : State) : (arm s).timeless = s.timeless := rfl
@[simp] theorem timeless_startWindow (i : Instr) (s : State) : (startWindow i s).timeless = s.timeless := by
  unfold startWindow
  split <;> rfl
theorem timeless_beginTick (s : State) : (beginTick s).timeless = beginTick s.timeless := rfl

/-- `f` ends a visit to a step: it clears `armed`, reads neither time nor the window timer, and leaves them alone. -/
structure IsExit (f : State → State) : Prop where
  armed : ∀ v, (f v).armed = false
  now : ∀ v, (f v).now = v.now
  timeless : ∀ v, (f v).timeless = (f v.timeless).timeless

theorem isExit_succeedState (i : Instr) : IsExit (succeedState i) :=
  ⟨succeedState_armed i, succeedState_now i, fun _ => by cases i <;> rfl⟩

theorem isExit_failState {p : Params} {i : Instr} (h : (stepTable p i).onFailure ≠ .cannotFail) :
    IsExit (failState i) := by
  refine ⟨fun v => failState_armed ?_, failState_now i, fun _ => by cases i <;> rfl⟩
  cases i <;> simp_all [stepTable]

theorem isExit_goto (j : Instr) : IsExit (goto j) := ⟨fun _ => rfl, fun _ => rfl, fun _ => rfl⟩

/-- What an exit writes depends on the registers but for time alone. -/
theorem IsExit.congr {f : State → State} (hf : IsExit f) {v w : State} (h : v.timeless = w.timeless) :
    (f v).timeless = (f w).timeless := by
  rw [hf.timeless v, h, ← hf.timeless w]

/-! ### A visit -/

/-- `n` ticks after `s`, the first tick of a step's visit, the block is in `t`: still in the step, armed, with its
window counting. -/
structure Waits (s : State) (n : Nat) (t : State) : Prop where
  run : run n s = .next t
  armed : t.armed = true
  dur : t.wt.dur = BitVec.ofNat 32 s.row.window
  elapsed : (elapsed t.now t.wt).toNat = n
  now : t.now = s.now + BitVec.ofNat 32 n
  same : (beginTick t).timeless = (beginTick s).timeless

/-- `n` ticks after `s` the block is in `t`, at the first tick of a step, with the registers `f` writes at a tick that
finds the registers of `s`. -/
structure Arrives (n : Nat) (s : State) (f : State → State) (t : State) : Prop where
  run : run n s = .next t
  armed : t.armed = false
  now : t.now = s.now + BitVec.ofNat 32 n
  same : t.timeless = (f (beginTick s)).timeless

namespace Waits

variable {s t : State} {n : Nat} (h : Waits s n t)
include h

theorem stepReg : t.stepReg = s.stepReg := by
  have := congrArg State.stepReg h.same
  exact this
theorem config : t.config = s.config := config_run h.run
theorem row : t.row = s.row := by rw [State.row, State.row, h.stepReg, h.config]

theorem rst {m : Nat} (hno : s.noReset m) (hm : n < m) : t.pins.rst = false := rst_after_run hno hm h.run

theorem level : t.level = s.levelAt n := by
  rw [State.level, levelAt_run h.run, Nat.add_zero]

theorem expired_iff (hk : s.row.kind ≠ .ctrl) : expired t.now t.wt = true ↔ s.row.window ≤ n := by
  rw [expired_window_iff (c := s.config) (row_window_mem hk) h.dur, h.elapsed]

theorem expired_eq (hk : s.row.kind ≠ .ctrl) : expired t.now t.wt = decide (s.row.window ≤ n) := by
  rw [Bool.eq_iff_iff, h.expired_iff hk, decide_eq_true_iff]

/-- A tick that does nothing lets the visit go on. -/
theorem succ (hrst : t.pins.rst = false) (hn : n < s.row.window) (hk : s.row.kind ≠ .ctrl)
    (hx : exec (decode s.stepReg) (beginTick t) = .next (beginTick t)) :
    Waits s (n + 1) (endTick (beginTick t)) where
  run := (run_succ_of_run h.run).trans (step_of_exec hrst (h.stepReg ▸ hx))
  armed := h.armed
  dur := h.dur
  elapsed := by
    have hwindow := s.config.duration_range (row_window_mem hk)
    exact (elapsed_succ t.now t.wt (by rw [h.elapsed]; omega)).trans (congrArg (· + 1) h.elapsed)
  now := by
    rw [endTick_now, beginTick_now, h.now, BitVec.ofNat_add, add_assoc]
    rfl
  same := h.same

/-- The tick of the visit's exit. -/
theorem leave {f : State → State} (hf : IsExit f) (hrst : t.pins.rst = false)
    (hx : exec (decode s.stepReg) (beginTick t) = .next (f (beginTick t))) :
    step t = .next (endTick (f (beginTick t))) ∧ Arrives (n + 1) s f (endTick (f (beginTick t))) := by
  have hstep := step_of_exec hrst (h.stepReg ▸ hx)
  refine ⟨hstep, (run_succ_of_run h.run).trans hstep, hf.armed _, ?_, hf.congr h.same⟩
  rw [endTick_now, hf.now, beginTick_now, h.now, BitVec.ofNat_add, add_assoc]
  rfl

end Waits

section first

variable {s : State} (hrst : s.pins.rst = false)
include hrst

/-- The arm tick starts the visit. -/
theorem waits_one (hx : exec (decode s.stepReg) (beginTick s) =
      .next (arm (startWindow (decode s.stepReg) (beginTick s)))) :
    Waits s 1 (endTick (arm (startWindow (decode s.stepReg) (beginTick s)))) where
  run := (run_succ_of_run rfl).trans (step_of_exec hrst hx)
  armed := rfl
  dur := by simp [State.row]
  elapsed := by
    rw [elapsed_eq_one (s := s) (by simp) (by simp)]
    rfl
  now := by simp
  same := by
    rw [timeless_beginTick, timeless_endTick, timeless_arm, timeless_startWindow]
    rfl

/-- The arm tick of a step that fails at once. -/
theorem arrives_failsAtOnce {p : Params} (hf : (stepTable p (decode s.stepReg)).onFailure ≠ .cannotFail)
    (hx : exec (decode s.stepReg) (beginTick s) =
      .next (failState (decode s.stepReg) (startWindow (decode s.stepReg) (beginTick s)))) :
    Arrives 1 s (failState (decode s.stepReg))
      (endTick (failState (decode s.stepReg) (startWindow (decode s.stepReg) (beginTick s)))) where
  run := (run_succ_of_run rfl).trans (step_of_exec hrst hx)
  armed := (isExit_failState hf).armed _
  now := by simp
  same := (isExit_failState hf).congr (timeless_startWindow _ _)

end first

/-! ### A visit to a WAIT step (42_wait_and_retain.md R140 to R142) -/

section wait

variable {s : State} {l : DefiniteLevel} (hk : s.row.kind = .wait l) (ha : s.armed = false)
include hk

theorem exec_wait_first (ha : s.armed = false) : exec (decode s.stepReg) (beginTick s) = .next
    (if s.levelAt 0 = l.opp.level then arm (startWindow (decode s.stepReg) (beginTick s))
      else failState (decode s.stepReg) (startWindow (decode s.stepReg) (beginTick s))) := by
  have hk : (stepTable (beginTick s).config.params (decode s.stepReg)).kind = .wait l := hk
  rw [exec_of_kind_wait hk, runWait_of_not_armed (s := beginTick s) ha]
  simp only [startWindow, hk]
  rfl

theorem Waits.exec_wait {n : Nat} {t : State} (h : Waits s n t) : exec (decode s.stepReg) (beginTick t) = .next
    (if s.levelAt n = l.level then succeedState (decode s.stepReg) (beginTick t)
      else if s.row.window ≤ n then failState (decode s.stepReg) (beginTick t) else beginTick t) := by
  have hkt : (stepTable (beginTick t).config.params (decode s.stepReg)).kind = .wait l := by
    rw [beginTick_config, h.config]
    exact hk
  rw [exec_of_kind_wait hkt, runWait_of_armed (s := beginTick t) h.armed, level_beginTick, h.level, beginTick_now,
    beginTick_wt, h.expired_eq (by simp [hk])]
  simp only [decide_eq_true_eq]

include ha

/-- As long as the level has not come, and up to the window's end, the WAIT goes on. -/
theorem waits_of_wait {n : Nat} (h1 : 1 ≤ n) (hn : n ≤ s.row.window) (hno : s.noReset n)
    (h0 : s.levelAt 0 = l.opp.level) (hlevel : ∀ k, 1 ≤ k → k < n → s.levelAt k ≠ l.level) :
    ∃ t, Waits s n t := by
  induction n, h1 using Nat.le_induction with
  | base =>
    have hx := exec_wait_first hk ha
    rw [if_pos h0] at hx
    exact ⟨_, waits_one (hno 0 (by omega)) hx⟩
  | succ n h1 ih =>
    obtain ⟨t, ht⟩ := ih (by omega) (noReset_mono hno (by omega)) fun k hk1 hkn => hlevel k hk1 (by omega)
    have hx := ht.exec_wait hk
    rw [if_neg (hlevel n h1 (by omega)), if_neg (by omega)] at hx
    exact ⟨_, ht.succ (ht.rst hno (by omega)) (by omega) (by simp [hk]) hx⟩

/-- The level comes within the window. -/
theorem wait_succeeds {n : Nat} (h1 : 1 ≤ n) (hn : n ≤ s.row.window) (hno : s.noReset (n + 1))
    (h0 : s.levelAt 0 = l.opp.level) (hlevel : ∀ k, 1 ≤ k → k < n → s.levelAt k ≠ l.level)
    (hedge : s.levelAt n = l.level) :
    ∃ t u, Waits s n t ∧ step t = .next u ∧ Arrives (n + 1) s (succeedState (decode s.stepReg)) u := by
  obtain ⟨t, ht⟩ := waits_of_wait hk ha h1 hn (noReset_mono hno (by omega)) h0 hlevel
  have hx := ht.exec_wait hk
  rw [if_pos hedge] at hx
  exact ⟨t, _, ht, ht.leave (isExit_succeedState _) (ht.rst hno (by omega)) hx⟩

/-- The first sample is not that of the level before the edge. -/
theorem wait_failsAtOnce (hno : s.noReset 1) (h0 : s.levelAt 0 ≠ l.opp.level) :
    ∃ u, Arrives 1 s (failState (decode s.stepReg)) u := by
  have hx := exec_wait_first hk ha
  rw [if_neg h0] at hx
  exact ⟨_, arrives_failsAtOnce (hno 0 (by omega)) (onFailure_of_wait hk) hx⟩

/-- The window passes without the level. -/
theorem wait_timesOut (hno : s.noReset (s.row.window + 1)) (h0 : s.levelAt 0 = l.opp.level)
    (hlevel : ∀ k, 1 ≤ k → k ≤ s.row.window → s.levelAt k ≠ l.level) :
    ∃ t u, Waits s s.row.window t ∧ step t = .next u ∧
      Arrives (s.row.window + 1) s (failState (decode s.stepReg)) u := by
  have h1 := (s.config.duration_range (row_window_mem (s := s) (by simp [hk]))).1
  obtain ⟨t, ht⟩ := waits_of_wait hk ha h1 (Nat.le_refl _) (noReset_mono hno (by omega)) h0 fun k hk1 hkn =>
    hlevel k hk1 (by omega)
  have hx := ht.exec_wait hk
  rw [if_neg (hlevel _ h1 (Nat.le_refl _)), if_pos (Nat.le_refl _)] at hx
  exact ⟨t, _, ht, ht.leave (isExit_failState (onFailure_of_wait hk)) (ht.rst hno (by omega)) hx⟩

end wait

/-! ### A visit to a RETAIN step (42_wait_and_retain.md R143, R144) -/

section retain

variable {s : State} {l : DefiniteLevel} (hk : s.row.kind = .retain l) (ha : s.armed = false)
include hk

theorem exec_retain_first (ha : s.armed = false) : exec (decode s.stepReg) (beginTick s) = .next
    (if s.levelAt 0 = l.opp.level then failState (decode s.stepReg) (startWindow (decode s.stepReg) (beginTick s))
      else arm (startWindow (decode s.stepReg) (beginTick s))) := by
  have hk : (stepTable (beginTick s).config.params (decode s.stepReg)).kind = .retain l := hk
  rw [exec_of_kind_retain hk, runRetain, beginTick_armed, ha]
  simp only [startWindow, hk]
  rfl

theorem Waits.exec_retain {n : Nat} {t : State} (h : Waits s n t) : exec (decode s.stepReg) (beginTick t) = .next
    (if s.row.window ≤ n then succeedState (decode s.stepReg) (beginTick t)
      else if s.levelAt n = l.opp.level then failState (decode s.stepReg) (beginTick t) else beginTick t) := by
  have hkt : (stepTable (beginTick t).config.params (decode s.stepReg)).kind = .retain l := by
    rw [beginTick_config, h.config]
    exact hk
  rw [exec_of_kind_retain hkt, runRetain, beginTick_armed, h.armed, level_beginTick, h.level, beginTick_now,
    beginTick_wt, h.expired_eq (by simp [hk])]
  simp only [decide_eq_true_eq, if_true]

include ha

/-- As long as the level is held, and up to the window's end, the RETAIN goes on. -/
theorem waits_of_retain {n : Nat} (h1 : 1 ≤ n) (hn : n ≤ s.row.window) (hno : s.noReset n)
    (hlevel : ∀ k, k < n → s.levelAt k ≠ l.opp.level) : ∃ t, Waits s n t := by
  induction n, h1 using Nat.le_induction with
  | base =>
    have hx := exec_retain_first hk ha
    rw [if_neg (hlevel 0 (by omega))] at hx
    exact ⟨_, waits_one (hno 0 (by omega)) hx⟩
  | succ n h1 ih =>
    obtain ⟨t, ht⟩ := ih (by omega) (noReset_mono hno (by omega)) fun k hkn => hlevel k (by omega)
    have hx := ht.exec_retain hk
    rw [if_neg (by omega), if_neg (hlevel n (by omega))] at hx
    exact ⟨_, ht.succ (ht.rst hno (by omega)) (by omega) (by simp [hk]) hx⟩

/-- The level is held for the window; the sample at its end does not matter. -/
theorem retain_succeeds (hno : s.noReset (s.row.window + 1))
    (hlevel : ∀ k, k < s.row.window → s.levelAt k ≠ l.opp.level) :
    ∃ t u, Waits s s.row.window t ∧ step t = .next u ∧
      Arrives (s.row.window + 1) s (succeedState (decode s.stepReg)) u := by
  have h1 := (s.config.duration_range (row_window_mem (s := s) (by simp [hk]))).1
  obtain ⟨t, ht⟩ := waits_of_retain hk ha h1 (Nat.le_refl _) (noReset_mono hno (by omega)) hlevel
  have hx := ht.exec_retain hk
  rw [if_pos (Nat.le_refl _)] at hx
  exact ⟨t, _, ht, ht.leave (isExit_succeedState _) (ht.rst hno (by omega)) hx⟩

/-- The level is lost within the window, after `n` ticks. -/
theorem retain_fails {n : Nat} (hn : n < s.row.window) (hno : s.noReset (n + 1))
    (hlevel : ∀ k, k < n → s.levelAt k ≠ l.opp.level) (hlost : s.levelAt n = l.opp.level) :
    ∃ t u, run n s = .next t ∧ t.stepReg = s.stepReg ∧ step t = .next u ∧
      Arrives (n + 1) s (failState (decode s.stepReg)) u := by
  rcases Nat.eq_zero_or_pos n with rfl | h1
  · have hx := exec_retain_first hk ha
    rw [if_pos hlost] at hx
    have hu := arrives_failsAtOnce (hno 0 (by omega)) (onFailure_of_retain hk) hx
    exact ⟨s, _, rfl, rfl, (run_succ_of_run (s := s) rfl).symm.trans hu.run, hu⟩
  · obtain ⟨t, ht⟩ := waits_of_retain hk ha h1 (by omega) (noReset_mono hno (by omega)) hlevel
    have hx := ht.exec_retain hk
    rw [if_neg (by omega), if_pos hlost] at hx
    exact ⟨t, _, ht.run, ht.stepReg, ht.leave (isExit_failState (onFailure_of_retain hk)) (ht.rst hno (by omega)) hx⟩

end retain

/-! ### Where a visit ends -/

namespace Arrives

variable {s u : State} {n : Nat}

theorem stepReg {f : State → State} (h : Arrives n s f u) : u.stepReg = (f (beginTick s)).stepReg := by
  have := congrArg State.stepReg h.same
  exact this

theorem target_of_succeed (h : Arrives n s (succeedState (decode s.stepReg)) u) :
    decode u.stepReg ∈ s.row.onSuccess := by
  rw [h.stepReg]
  exact succeedState_target _ _

theorem target_of_fail (h : Arrives n s (failState (decode s.stepReg)) u) (hf : s.row.onFailure ≠ .cannotFail) :
    decode u.stepReg ∈ s.row.onFailure.targets := by
  rw [h.stepReg]
  exact failState_target hf

end Arrives

/-- Settles O27: its clauses are `wait_succeeds`, `wait_failsAtOnce` and `wait_timesOut`. -/
theorem waitAcceptsTheFirstEdgeInItsWindow : Obligations.WaitAcceptsTheFirstEdgeInItsWindow := by
  intro s l hk ha
  have hf := onFailure_of_wait hk
  refine ⟨fun n h1 hn hno h0 hlevel hedge => ?_, fun hno h0 => ?_, fun hno h0 hlevel => ?_⟩
  · obtain ⟨t, u, ht, hstep, hu⟩ := wait_succeeds hk ha h1 hn hno h0 hlevel hedge
    exact ⟨t, u, ht.run, ht.stepReg, ht.armed, hstep, hu.target_of_succeed, hu.armed⟩
  · obtain ⟨u, hu⟩ := wait_failsAtOnce hk ha hno h0
    exact ⟨u, (run_succ_of_run (s := s) rfl).symm.trans hu.run, hu.target_of_fail hf, hu.armed⟩
  · obtain ⟨t, u, ht, hstep, hu⟩ := wait_timesOut hk ha hno h0 hlevel
    exact ⟨t, u, ht.run, ht.stepReg, ht.armed, hstep, hu.target_of_fail hf, hu.armed⟩

/-- Settles O28: its clauses are `retain_succeeds` and `retain_fails`. -/
theorem retainAcceptsAHeldLevel : Obligations.RetainAcceptsAHeldLevel := by
  intro s l hk ha
  have hf := onFailure_of_retain hk
  refine ⟨fun hno hlevel => ?_, fun n hn hno hlevel hlost => ?_⟩
  · obtain ⟨t, u, ht, hstep, hu⟩ := retain_succeeds hk ha hno hlevel
    exact ⟨t, u, ht.run, ht.stepReg, ht.armed, hstep, hu.target_of_succeed, hu.armed⟩
  · obtain ⟨t, u, hrun, hstay, hstep, hu⟩ := retain_fails hk ha hn hno hlevel hlost
    exact ⟨t, u, hrun, hstay, hstep, hu.target_of_fail hf, hu.armed⟩

end Sys2Proof.Machine
end

section
/-! Every visit and every round ends (42_wait_and_retain.md R147, 45_integrity_and_frame_loop.md R218). -/

namespace Sys2Proof.Machine

theorem run_succ_of_step {n : Nat} {s s' t : State} (hstep : step s = .next s') (hrun : run n s' = .next t) :
    run (n + 1) s = .next t := by
  unfold run
  simp only [hstep]
  exact hrun

theorem noReset_step {n : Nat} {s t : State} (hno : s.noReset (n + 1)) (h : step s = .next t) : t.noReset n := by
  intro k hk
  rw [pinsAt_step h]
  exact hno (k + 1) (by omega)

/-- No step is its own successor (30_encoding.md R88). -/
theorem not_mem_targets (p : Params) (i : Instr) : i ∉ (stepTable p i).targets := by
  cases i <;> simp [stepTable, StepRow.targets, FailureExit.targets]

theorem Leaves.stepReg_ne {s t : State} (h : Leaves s t) : t.stepReg ≠ s.stepReg := by
  intro hstep
  have := h.target
  rw [hstep] at this
  exact not_mem_targets _ _ this

/-- With `d` ticks of the window left, the step is left within `d + 1` ticks. -/
theorem visit_ends {d : Nat} {s : State} (hheld : s.windowHeld) (hd : s.row.window ≤ s.waited + d)
    (hno : s.noReset (d + 1)) :
    ∃ n t, n ≤ d ∧ run (n + 1) s = .next t ∧ t.stepReg ≠ s.stepReg ∧ t.armed = false ∧
      decode t.stepReg ∈ s.row.targets := by
  induction d generalizing s with
  | zero =>
    obtain ⟨t, hstep⟩ := step_total s
    rcases continues_or_leaves (hno 0 (by omega)) hheld hstep with hc | hl
    · have := hc.window
      omega
    · exact ⟨0, t, Nat.le_refl _, run_succ_of_step hstep rfl, hl.stepReg_ne, hl.armed, hl.target⟩
  | succ d ih =>
    obtain ⟨s', hstep⟩ := step_total s
    have hrst := hno 0 (by omega)
    rcases continues_or_leaves hrst hheld hstep with hc | hl
    · have hrow : s'.row = s.row := by rw [State.row, State.row, hc.stepReg, config_step hstep]
      have hwaited := hc.waited
      obtain ⟨n, t, hn, hrun, hend⟩ := ih (s := s') (windowHeld_step hrst hheld hstep) (by rw [hrow]; omega)
        (noReset_step hno hstep)
      rw [hrow, hc.stepReg] at hend
      exact ⟨n + 1, t, by omega, run_succ_of_step hstep hrun, hend⟩
    · exact ⟨0, s', by omega, run_succ_of_step hstep rfl, hl.stepReg_ne, hl.armed, hl.target⟩

/-- Settles O29: at its first tick a step has its whole window left. -/
theorem everyVisitEnds : Obligations.EveryVisitEnds := by
  intro s ha hno
  exact visit_ends (fun h => absurd (ha.symm.trans h) (by decide)) (by omega) hno

/-- From the first tick of a step, how many ticks at most bring the block to IDLE; from the steps of a decode attempt,
how many from DEC_INIT (45_integrity_and_frame_loop.md R218). -/
def ticksToIdle (p : Params) : Instr → Nat
  | .done => p.tPause + 1
  | .lbRetSpace => p.lastHead + p.tPause + p.tLeadSpaceRetain + 4
  | .lbWaitSpace => p.lastHead + p.tPause + p.tLeadSpaceRetain + p.tLeadSpaceWait + 5
  | .lbRetMark => p.lastHead + p.tPause + p.tLeadSpaceRetain + p.tLeadSpaceWait + p.tLeadMarkRetain + 6
  | .lbWaitMark =>
    p.lastHead + p.tPause + p.tLeadSpaceRetain + p.tLeadSpaceWait + p.tLeadMarkRetain + p.tLeadMarkWait + 7
  | .idle =>
    p.lastHead + p.tPause + p.tLeadSpaceRetain + p.tLeadSpaceWait + p.tLeadMarkRetain + p.tLeadMarkWait + 8
  | _ => p.lastHead + p.tPause + 3

/-- How many ticks at most bring the block to IDLE from here. -/
def State.remaining (s : State) : Nat :=
  ticksToIdle s.config.params (decode s.stepReg) -
    if readsAttempt (decode s.stepReg) then (elapsed s.now s.ft).toNat else s.waited

theorem ticksToIdle_of_attempt (p : Params) {i : Instr} (hi : readsAttempt i = true) :
    ticksToIdle p i = p.lastHead + p.tPause + 3 := by
  cases i
  case idle | lbWaitMark | lbRetMark | lbWaitSpace | lbRetSpace | decInit | done => cases hi
  all_goals rfl

/-- Outside a decode attempt a step leads to IDLE, or to one nearer to it by more than its window. -/
theorem ticksToIdle_move (p : Params) {i j : Instr} (hi : readsAttempt i = false) (hij : j ∈ (stepTable p i).targets) :
    j = .idle ∨ (i = .decInit ∧ j = .fbWaitMark) ∨
      (readsAttempt j = false ∧ ticksToIdle p j + (stepTable p i).window < ticksToIdle p i) := by
  cases i
  case idle | done =>
    obtain rfl : j = _ := List.mem_singleton.mp hij
    simp [readsAttempt, encode, ticksToIdle, stepTable]
  case decInit =>
    obtain rfl : j = _ := List.mem_singleton.mp hij
    exact .inr (.inl ⟨rfl, rfl⟩)
  case lbWaitMark | lbRetMark | lbWaitSpace | lbRetSpace =>
    simp only [stepTable, StepRow.targets, FailureExit.targets, List.cons_append, List.nil_append, List.mem_cons,
      List.not_mem_nil, or_false] at hij
    rcases hij with rfl | rfl
    · refine .inr (.inr ⟨rfl, ?_⟩)
      simp only [ticksToIdle, stepTable]
      omega
    · exact .inl rfl
  all_goals cases hi

/-- An attempt goes on or ends in DONE. -/
theorem attempt_target {p : Params} {i j : Instr} (hi : readsAttempt i = true) (hij : j ∈ (stepTable p i).targets) :
    readsAttempt j = true ∨ j = .done := by
  cases i
  case idle | lbWaitMark | lbRetMark | lbWaitSpace | lbRetSpace | decInit | done => cases hi
  all_goals
    simp only [stepTable, StepRow.targets, FailureExit.targets, List.cons_append, List.nil_append, List.mem_cons,
      List.not_mem_nil, or_false] at hij
    rcases hij with rfl | rfl | rfl <;> decide

theorem window_lt_ticksToIdle (p : Params) {i : Instr} (hi : readsAttempt i = false) :
    (stepTable p i).window < ticksToIdle p i := by
  cases i
  case idle | lbWaitMark | lbRetMark | lbWaitSpace | lbRetSpace | decInit | done =>
    simp only [stepTable, ticksToIdle]
    omega
  all_goals cases hi

theorem remaining_of_attempt {s : State} (hi : readsAttempt (decode s.stepReg) = true) :
    s.remaining = s.config.params.lastHead + s.config.params.tPause + 3 - (elapsed s.now s.ft).toNat := by
  rw [State.remaining, if_pos hi, ticksToIdle_of_attempt _ hi]

theorem remaining_of_not_attempt {s : State} (hi : readsAttempt (decode s.stepReg) = false) :
    s.remaining = ticksToIdle s.config.params (decode s.stepReg) - s.waited := by
  rw [State.remaining, if_neg (by simp [hi])]

theorem ft_step_of_attempt {s t : State} (hrst : s.pins.rst = false) (h : step s = .next t)
    (hi : readsAttempt (decode s.stepReg) = true) : t.ft = s.ft := by
  rcases step_ft_cases hrst h with ⟨hft, _⟩ | ⟨h5, _⟩
  · exact hft
  · have hinit : decode s.stepReg = .decInit := decode_eq_iff.mpr h5
    rw [hinit] at hi
    cases hi

namespace Inv

variable {s t : State} (hinv : Inv s)
include hinv

theorem elapsed_le_lastHead (hd : s.decoding) : (elapsed s.now s.ft).toNat ≤ s.config.params.lastHead + 1 :=
  Nat.le_trans (hinv.elapsed_le hd)
    (s.config.params.deadlineBound_add_window_le (decoding_iff_decode.mp hd))

theorem remaining_pos : 0 < s.remaining := by
  cases hi : readsAttempt (decode s.stepReg) with
  | true =>
    have := hinv.elapsed_le_lastHead (decoding_iff_decode.mpr hi)
    rw [remaining_of_attempt hi]
    omega
  | false =>
    have hwaited := hinv.waited_le
    have hwindow := window_lt_ticksToIdle s.config.params hi
    rw [remaining_of_not_attempt hi]
    unfold State.row at hwaited
    omega

/-- A tick of a step that goes on brings the block nearer to IDLE. -/
theorem remaining_continues (hrst : s.pins.rst = false) (h : Machine.step s = .next t) (hc : Continues s t) :
    t.remaining < s.remaining := by
  have hpos := hinv.remaining_pos
  obtain ⟨_, hnow, _, _⟩ := step_frame hrst h
  cases hi : readsAttempt (decode s.stepReg) with
  | true =>
    have hd := decoding_iff_decode.mpr hi
    have hft := ft_step_of_attempt hrst h hi
    rw [remaining_of_attempt hi] at hpos ⊢
    rw [remaining_of_attempt (hc.stepReg ▸ hi), config_step h, hnow, hft, hinv.elapsed_succ hd]
    omega
  | false =>
    have hwaited := hc.waited
    rw [remaining_of_not_attempt hi] at hpos ⊢
    rw [remaining_of_not_attempt (hc.stepReg ▸ hi), config_step h, hc.stepReg]
    omega

/-- A tick that leaves a step outside an attempt. -/
theorem remaining_leaves_of_not_attempt (hrst : s.pins.rst = false) (h : Machine.step s = .next t) (hl : Leaves s t)
    (hi : readsAttempt (decode s.stepReg) = false) : t.stepReg = 0 ∨ t.remaining < s.remaining := by
  obtain ⟨_, hnow, _, _⟩ := step_frame hrst h
  rcases ticksToIdle_move _ hi hl.target with hidle | ⟨hinit, hfirst⟩ | ⟨hj, hlt⟩
  · exact .inl (decode_eq_iff.mp hidle)
  · have h5 : s.stepReg = 5 := decode_eq_iff.mp hinit
    have hft := ((step_ft_cases hrst h).resolve_left fun hft => hft.2 h5).2
    have hj : readsAttempt (decode t.stepReg) = true := by rw [hfirst]; rfl
    have hone : (1 : Word).toNat = 1 := rfl
    have hwaited : s.waited = 0 := by
      have := hinv.waited_le
      rw [State.row, hinit] at this
      exact Nat.le_zero.mp this
    rw [remaining_of_not_attempt hi, remaining_of_attempt hj, hinit, hnow, hft, elapsed_start, config_step h, hwaited,
      hone]
    simp only [ticksToIdle]
    exact .inr (by omega)
  · have hwaited := hinv.waited_le
    unfold State.row at hwaited
    rw [remaining_of_not_attempt hi, remaining_of_not_attempt hj, waited_of_not_armed hl.armed, config_step h]
    exact .inr (by omega)

/-- A tick that leaves a step of an attempt. -/
theorem remaining_leaves_of_attempt (hrst : s.pins.rst = false) (h : Machine.step s = .next t) (hl : Leaves s t)
    (hi : readsAttempt (decode s.stepReg) = true) : t.remaining < s.remaining := by
  have hd := decoding_iff_decode.mpr hi
  have hle := hinv.elapsed_le_lastHead hd
  obtain ⟨_, hnow, _, _⟩ := step_frame hrst h
  rw [remaining_of_attempt hi]
  rcases attempt_target hi hl.target with hj | hdone
  · have hft := ft_step_of_attempt hrst h hi
    rw [remaining_of_attempt hj, config_step h, hnow, hft, hinv.elapsed_succ hd]
    omega
  · have hj : readsAttempt (decode t.stepReg) = false := by rw [hdone]; rfl
    rw [remaining_of_not_attempt hj, hdone, config_step h]
    simp only [ticksToIdle]
    omega

/-- Every tick brings the block to IDLE or nearer to it. -/
theorem remaining_step (hrst : s.pins.rst = false) (h : Machine.step s = .next t) :
    t.stepReg = 0 ∨ t.remaining < s.remaining := by
  rcases continues_or_leaves hrst hinv.windowHeld h with hc | hl
  · exact .inr (hinv.remaining_continues hrst h hc)
  · cases hi : readsAttempt (decode s.stepReg) with
    | true => exact .inr (hinv.remaining_leaves_of_attempt hrst h hl hi)
    | false => exact hinv.remaining_leaves_of_not_attempt hrst h hl hi

end Inv

/-- Within as many ticks as remain the block is in IDLE. -/
theorem Inv.reaches_idle {d : Nat} {s : State} (hinv : Inv s) (hd : s.remaining ≤ d) (hno : s.noReset d) :
    ∃ n t, 1 ≤ n ∧ n ≤ d ∧ run n s = .next t ∧ t.stepReg = 0 := by
  induction d generalizing s with
  | zero =>
    have := hinv.remaining_pos
    omega
  | succ d ih =>
    obtain ⟨s', hstep⟩ := step_total s
    rcases hinv.remaining_step (hno 0 (by omega)) hstep with hidle | hlt
    · exact ⟨1, s', by omega, by omega, run_succ_of_step hstep rfl, hidle⟩
    · obtain ⟨n, t, h1, hn, hrun, hidle⟩ := ih (hinv.step hstep) (by omega) (noReset_step hno hstep)
      exact ⟨n + 1, t, by omega, by omega, run_succ_of_step hstep hrun, hidle⟩

theorem remaining_le (s : State) : s.remaining ≤ ticksToIdle s.config.params .idle := by
  refine Nat.le_trans (Nat.sub_le _ _) ?_
  cases decode s.stepReg <;> simp only [ticksToIdle] <;> omega

theorem withDefaults_lastHead (low : Nat) : (Params.withDefaults low).lastHead = 59956 := by
  rw [Params.lastHead, Params.withDefaults_firstHeadBound, Params.withDefaults_zeroIterationBound]
  simp [Params.withDefaults]

theorem withDefaults_ticksToIdle (low : Nat) : ticksToIdle (Params.withDefaults low) .idle = 75364 := by
  rw [ticksToIdle, withDefaults_lastHead]
  simp only [Params.withDefaults]

/-- Settles O43: a round takes at most `ticksToIdle .idle` ticks, and an attempt at most `lastHead + 1`. -/
theorem everyRoundEnds : Obligations.EveryRoundEnds := by
  intro s hinv hparams
  refine ⟨fun hno => hinv.reaches_idle (d := 75364) ?_ hno, fun hd => ?_⟩
  · have := remaining_le s
    rwa [hparams, withDefaults_ticksToIdle] at this
  · have := hinv.elapsed_le_lastHead hd
    rwa [hparams, withDefaults_lastHead] at this

/-! ### Without a NonMark sample (45_integrity_and_frame_loop.md R220) -/

/-- After `n` ticks from `s`, in IDLE, without a NonMark sample. -/
structure Alternates (s : State) (n : Nat) (t : State) : Prop where
  run : run n s = .next t
  stepReg : t.stepReg = if n % 2 = 0 then 0 else 1
  kept : (goto .idle (beginTick t)).timeless = (goto .idle (beginTick s)).timeless
  quiet : 1 ≤ n → t.armed = false ∧ t.frameValid = false ∧ t.rejectValid = false ∧ t.dbgBitTick = false ∧
    (t.dbgPollTick = true ↔ n % 2 = 0)

namespace Alternates

variable {s t : State} {n : Nat} (h : Alternates s n t) (hrst : t.pins.rst = false)
include h hrst

/-- IDLE goes to LB_WAIT_MARK. -/
theorem succ_of_even (hn : n % 2 = 0) : Alternates s (n + 1) (endTick (goto .lbWaitMark (beginTick t))) where
  run := (run_succ_of_run h.run).trans (step_of_idle hrst (by rw [h.stepReg, if_pos hn]))
  stepReg := by
    rw [if_neg (by omega)]
    rfl
  kept := h.kept
  quiet _ := ⟨rfl, rfl, rfl, rfl, by simp; omega⟩

/-- LB_WAIT_MARK asks for NonMark at its arm tick, and goes back. -/
theorem succ_of_odd (hn : n % 2 = 1) (hlevel : t.levelAt 0 ≠ .nonMark) :
    Alternates s (n + 1) (endTick (goto .idle (startWindow .lbWaitMark (beginTick t)))) where
  run := by
    have hs : decode t.stepReg = .lbWaitMark := by rw [h.stepReg, if_neg (by omega)]; rfl
    have hx := exec_wait_first (s := t) (l := .mark) (by rw [State.row, hs]; rfl) (h.quiet (by omega)).1
    rw [if_neg (show t.levelAt 0 ≠ DefiniteLevel.mark.opp.level from hlevel), hs] at hx
    exact (run_succ_of_run h.run).trans (step_of_exec hrst (hs.symm ▸ hx))
  stepReg := by
    rw [if_pos (by omega)]
    rfl
  kept := h.kept
  quiet _ := ⟨rfl, rfl, rfl, rfl, by
    have : (n + 1) % 2 = 0 := by omega
    simp [this, startWindow, stepTable]⟩

end Alternates

theorem alternates {s : State} {n : Nat} (hs : s.stepReg = 0) (hno : s.noReset n)
    (hlevel : ∀ k, k < n → s.levelAt k ≠ .nonMark) : ∃ t, Alternates s n t := by
  induction n with
  | zero => exact ⟨s, rfl, hs, rfl, nofun⟩
  | succ n ih =>
    obtain ⟨t, ht⟩ := ih (noReset_mono hno (by omega)) fun k hk => hlevel k (by omega)
    have hrst := rst_after_run hno (Nat.lt_succ_self n) ht.run
    rcases Nat.mod_two_eq_zero_or_one n with heven | hodd
    · exact ⟨_, ht.succ_of_even hrst heven⟩
    · refine ⟨_, ht.succ_of_odd hrst hodd ?_⟩
      rw [levelAt_run ht.run]
      exact hlevel n (Nat.lt_succ_self n)

/-- Settles O42: induction on the number of ticks, by its parity. -/
theorem noSignalNeverReachesDecoding : Obligations.NoSignalNeverReachesDecoding := by
  intro s n hs hno hlevel
  obtain ⟨t, ht⟩ := alternates hs hno hlevel
  have kept {α : Type} (f : State → α) := congrArg f ht.kept
  exact ⟨t, ht.run, ht.stepReg, kept State.result, kept State.address, kept State.data, kept State.ft, kept State.raw,
    kept State.idx, ht.quiet⟩

end Sys2Proof.Machine
end

section
/-! Chains of visits (42_wait_and_retain.md R150): from an arrival at a step, the visit to it, with the samples counted
from the start of the chain. -/

namespace Sys2Proof.Machine

namespace Arrives

variable {s t : State} {n : Nat} {f : State → State}

section fields

variable (h : Arrives n s f t)
include h

/-- A register that time does not touch. -/
theorem register {α : Type} (r : State → α) (hr : ∀ v : State, r v.timeless = r v) : r t = r (f (beginTick s)) := by
  rw [← hr t, h.same, hr]

theorem raw : t.raw = (f (beginTick s)).raw := h.register State.raw fun _ => rfl
theorem idx : t.idx = (f (beginTick s)).idx := h.register State.idx fun _ => rfl
theorem ft : t.ft = (f (beginTick s)).ft := h.register State.ft fun _ => rfl
theorem address : t.address = (f (beginTick s)).address := h.register State.address fun _ => rfl
theorem data : t.data = (f (beginTick s)).data := h.register State.data fun _ => rfl
theorem result : t.result = (f (beginTick s)).result := h.register State.result fun _ => rfl
theorem rejectValid : t.rejectValid = (f (beginTick s)).rejectValid := h.register State.rejectValid fun _ => rfl

end fields

/-- The chain of two arrivals. -/
theorem andThen {m : Nat} {u : State} {g : State → State} (h : Arrives n s f t) (hu : Arrives m t g u)
    (hg : IsExit g) : Arrives (n + m) s (fun v => g (beginTick (f v))) u where
  run := run_add h.run hu.run
  armed := hu.armed
  now := by rw [hu.now, h.now, BitVec.ofNat_add, add_assoc]
  same := by
    rw [hu.same]
    exact hg.congr (congrArg beginTick h.same)

section hops

variable (h : Arrives n s f t) {i : Instr} (hi : (f (beginTick s)).stepReg = encode i) {w : Nat}
include h hi

theorem decode_stepReg : decode t.stepReg = i := by rw [h.stepReg, hi, decode_encode]

theorem row : t.row = stepTable s.config.params i := by rw [State.row, h.decode_stepReg hi, config_run h.run]

section wait

variable {l : DefiniteLevel} (hk : (stepTable s.config.params i).kind = .wait l)
include hk

/-- The level of the WAIT comes after `m` ticks of its window. -/
theorem wait_succeeds (hw : (stepTable s.config.params i).window = w) {m : Nat} (h1 : 1 ≤ m) (hm : m ≤ w)
    (hno : s.noReset (n + m + 1)) (h0 : s.levelAt n = l.opp.level)
    (hlevel : ∀ k, n < k → k < n + m → s.levelAt k ≠ l.level) (hedge : s.levelAt (n + m) = l.level) :
    ∃ t' u, Machine.run (n + m) s = .next t' ∧ t'.stepReg = encode i ∧ step t' = .next u ∧
      Arrives (n + (m + 1)) s (fun v => succeedState i (beginTick (f v))) u := by
  have hrow := h.row hi
  obtain ⟨t', u, ht', hstep, hu⟩ := Machine.wait_succeeds (s := t) (by rw [hrow, hk]) h.armed h1
    (by rw [hrow, hw]; exact hm) (noReset_run hno h.run) (by rw [levelAt_run h.run]; exact h0)
    (fun k hk1 hkm => by rw [levelAt_run h.run]; exact hlevel _ (by omega) (by omega))
    (by rw [levelAt_run h.run]; exact hedge)
  rw [h.decode_stepReg hi] at hu
  exact ⟨t', u, run_add h.run ht'.run, by rw [ht'.stepReg, h.stepReg, hi], hstep,
    h.andThen hu (isExit_succeedState i)⟩

/-- The WAIT finds no sample of the level before the edge. -/
theorem wait_failsAtOnce (hno : s.noReset (n + 1)) (h0 : s.levelAt n ≠ l.opp.level) :
    ∃ u, Arrives (n + 1) s (fun v => failState i (beginTick (f v))) u := by
  have hrow := h.row hi
  obtain ⟨u, hu⟩ := Machine.wait_failsAtOnce (s := t) (by rw [hrow, hk]) h.armed (noReset_run hno h.run)
    (by rw [levelAt_run h.run]; exact h0)
  rw [h.decode_stepReg hi] at hu
  exact ⟨u, h.andThen hu (isExit_failState (onFailure_of_wait hk))⟩

/-- The window of the WAIT passes. -/
theorem wait_timesOut (hw : (stepTable s.config.params i).window = w) (hno : s.noReset (n + w + 1))
    (h0 : s.levelAt n = l.opp.level) (hlevel : ∀ k, n < k → k ≤ n + w → s.levelAt k ≠ l.level) :
    ∃ u, Arrives (n + (w + 1)) s (fun v => failState i (beginTick (f v))) u := by
  have hrow := h.row hi
  have hwindow : t.row.window = w := by rw [hrow, hw]
  obtain ⟨_, u, _, _, hu⟩ := Machine.wait_timesOut (s := t) (by rw [hrow, hk]) h.armed
    (by rw [hwindow]; exact noReset_run hno h.run) (by rw [levelAt_run h.run]; exact h0)
    (fun k hk1 hkm => by rw [levelAt_run h.run]; exact hlevel _ (by omega) (by omega))
  rw [h.decode_stepReg hi, hwindow] at hu
  exact ⟨u, h.andThen hu (isExit_failState (onFailure_of_wait hk))⟩

end wait

section retain

variable {l : DefiniteLevel} (hk : (stepTable s.config.params i).kind = .retain l)
include hk

/-- The level of the RETAIN is held for its window. -/
theorem retain_succeeds (hw : (stepTable s.config.params i).window = w) (hno : s.noReset (n + w + 1))
    (hlevel : ∀ k, n ≤ k → k < n + w → s.levelAt k ≠ l.opp.level) :
    ∃ u, Arrives (n + (w + 1)) s (fun v => succeedState i (beginTick (f v))) u := by
  have hrow := h.row hi
  have hwindow : t.row.window = w := by rw [hrow, hw]
  obtain ⟨_, u, _, _, hu⟩ := Machine.retain_succeeds (s := t) (by rw [hrow, hk]) h.armed
    (by rw [hwindow]; exact noReset_run hno h.run)
    (fun k hkm => by rw [levelAt_run h.run]; exact hlevel _ (by omega) (by omega))
  rw [h.decode_stepReg hi, hwindow] at hu
  exact ⟨u, h.andThen hu (isExit_succeedState i)⟩

/-- The level of the RETAIN is lost after `m` ticks. -/
theorem retain_fails {m : Nat} (hm : m < (stepTable s.config.params i).window) (hno : s.noReset (n + m + 1))
    (hlevel : ∀ k, n ≤ k → k < n + m → s.levelAt k ≠ l.opp.level) (hlost : s.levelAt (n + m) = l.opp.level) :
    ∃ u, Arrives (n + (m + 1)) s (fun v => failState i (beginTick (f v))) u := by
  have hrow := h.row hi
  obtain ⟨_, u, _, _, _, hu⟩ := Machine.retain_fails (s := t) (by rw [hrow, hk]) h.armed (n := m)
    (by rw [hrow]; exact hm) (noReset_run hno h.run)
    (fun k hkm => by rw [levelAt_run h.run]; exact hlevel _ (by omega) (by omega))
    (by rw [levelAt_run h.run]; exact hlost)
  rw [h.decode_stepReg hi] at hu
  exact ⟨u, h.andThen hu (isExit_failState (onFailure_of_retain hk))⟩

end retain
end hops
end Arrives

/-! ### A mark measured by RETAIN and then WAIT (42_wait_and_retain.md R150) -/

/-- The steps that measure a mark: the RETAIN, the WAIT, the step after an accepted mark, and the step after a failed
one (30_encoding.md R88). -/
inductive MarkMeasured : Instr → Instr → Instr → Instr → Prop where
  | preamble : MarkMeasured .lbRetMark .lbWaitSpace .lbRetSpace .idle
  | burst : MarkMeasured .brRetMark .brWaitSpace .brRetSpace .done

namespace MarkMeasured

variable {retain wait accepted failed : Instr} (h : MarkMeasured retain wait accepted failed)
include h

theorem retain_kind (p : Params) : (stepTable p retain).kind = .retain .mark := by cases h <;> rfl
theorem wait_kind (p : Params) : (stepTable p wait).kind = .wait .nonMark := by cases h <;> rfl
theorem retain_succeeds : succeedState retain = goto wait := by cases h <;> rfl
theorem wait_succeeds : succeedState wait = goto accepted := by cases h <;> rfl
theorem retain_fails (v : State) : (failState retain v).stepReg = encode failed := by cases h <;> rfl
theorem wait_fails (v : State) : (failState wait v).stepReg = encode failed := by cases h <;> rfl

end MarkMeasured

section mark

variable {retain wait accepted failed : Instr} (hmark : MarkMeasured retain wait accepted failed)
  {s : State} (hs : s.stepReg = encode retain) (ha : s.armed = false) {r w : Nat}
  (hr : (stepTable s.config.params retain).window = r) (hw : (stepTable s.config.params wait).window = w)
include hmark hs ha hr

/-- A mark as long as the retention reaches the WAIT for its end. -/
theorem mark_held (hno : s.noReset (r + 1)) (hlevel : ∀ k, k < r → s.levelAt k = .mark) :
    ∃ t, Arrives (r + 1) s (goto wait) t := by
  have hi : decode s.stepReg = retain := decode_eq_iff.mpr hs
  have hwindow : s.row.window = r := by rw [State.row, hi, hr]
  obtain ⟨_, t, _, _, ht⟩ := retain_succeeds (s := s) (l := .mark) (by rw [State.row, hi, hmark.retain_kind]) ha
    (by rwa [hwindow]) (fun k hk => by rw [hlevel k (by omega)]; exact nofun)
  rw [hi, hmark.retain_succeeds, hwindow] at ht
  exact ⟨t, ht⟩

/-- A mark shorter than the retention fails at its end. -/
theorem mark_lost {m : Nat} (h1 : 1 ≤ m) (hm : m ≤ r) (hno : s.noReset m)
    (hlevel : ∀ k, k + 1 < m → s.levelAt k = .mark) (hlost : s.levelAt (m - 1) = .nonMark) :
    ∃ t, Arrives m s (failState retain) t := by
  have hi : decode s.stepReg = retain := decode_eq_iff.mpr hs
  obtain ⟨q, rfl⟩ : ∃ q, m = q + 1 := ⟨m - 1, by omega⟩
  obtain ⟨_, t, _, _, _, ht⟩ := retain_fails (s := s) (l := .mark) (n := q)
    (by rw [State.row, hi, hmark.retain_kind]) ha (by rw [State.row, hi, hr]; omega) hno
    (fun k hk => by rw [hlevel k (by omega)]; exact nofun) hlost
  rw [hi] at ht
  exact ⟨t, ht⟩

/-- A mark as long as the retention, but too short for the WAIT, fails at its first tick. -/
theorem mark_tooShort {m : Nat} (hm : r < m) (hno : s.noReset (r + 2))
    (hlevel : ∀ k, k + 1 < m → s.levelAt k = .mark) (hend : s.levelAt (r + 1) = .nonMark) :
    ∃ t, Arrives (r + 2) s (fun v => failState wait (beginTick (goto wait v))) t := by
  obtain ⟨t, ht⟩ := mark_held hmark hs ha hr (noReset_mono hno (by omega)) fun k hk => hlevel k (by omega)
  exact ht.wait_failsAtOnce rfl (hmark.wait_kind _) hno (by rw [hend]; exact nofun)

include hw

/-- A mark of accepted width is followed at its end by the next step. -/
theorem mark_accepted {m : Nat} (hmin : r + 3 ≤ m) (hmax : m ≤ r + 2 + w) (hno : s.noReset m)
    (hlevel : ∀ k, k + 1 < m → s.levelAt k = .mark) (hend : s.levelAt (m - 1) = .nonMark) :
    ∃ t u, run (m - 1) s = .next t ∧ t.stepReg = encode wait ∧ step t = .next u ∧ Arrives m s (goto accepted) u := by
  obtain ⟨q, rfl⟩ : ∃ q, m = r + 1 + (q + 1) := ⟨m - (r + 2), by omega⟩
  obtain ⟨t, ht⟩ := mark_held hmark hs ha hr (noReset_mono hno (by omega)) fun k hk => hlevel k (by omega)
  obtain ⟨t', u, hrun, hstep', hstep, hu⟩ := ht.wait_succeeds rfl (hmark.wait_kind _) hw (m := q) (by omega) (by omega)
    hno (hlevel _ (by omega)) (fun k hk1 hk2 => by rw [hlevel k (by omega)]; exact nofun) hend
  rw [hmark.wait_succeeds] at hu
  exact ⟨t', u, hrun, hstep', hstep, hu.run, hu.armed, hu.now, hu.same⟩

/-- A mark too long for the WAIT fails at the end of its window. -/
theorem mark_tooLong (hno : s.noReset (r + 2 + w)) (hlevel : ∀ k, k < r + 2 + w → s.levelAt k = .mark) :
    ∃ t, Arrives (r + 2 + w) s (fun v => failState wait (beginTick (goto wait v))) t := by
  obtain ⟨t, ht⟩ := mark_held hmark hs ha hr (noReset_mono hno (by omega)) fun k hk => hlevel k (by omega)
  obtain ⟨u, hu⟩ := ht.wait_timesOut rfl (hmark.wait_kind _) hw (noReset_mono hno (by omega)) (hlevel _ (by omega))
    fun k hk1 hk2 => by rw [hlevel k (by omega)]; exact nofun
  rw [show r + 1 + (w + 1) = r + 2 + w by omega] at hu
  exact ⟨u, hu⟩

/-- The three outcomes of a mark, by its width. -/
theorem mark_widths {m : Nat} (hlevel : ∀ k, k + 1 < m → s.levelAt k = .mark) :
    (r + 3 ≤ m → m ≤ r + 2 + w → s.noReset m → s.levelAt (m - 1) = .nonMark →
      ∃ t u, run (m - 1) s = .next t ∧ t.stepReg = encode wait ∧ step t = .next u ∧ u.stepReg = encode accepted) ∧
    (1 ≤ m → m ≤ r + 2 → s.noReset (r + 2) → (∀ k, m ≤ k + 1 → k < r + 2 → s.levelAt k = .nonMark) →
      ∃ n t, n ≤ r + 2 ∧ run n s = .next t ∧ decode t.stepReg = failed) ∧
    (r + 2 + w < m → s.noReset (r + 2 + w) →
      ∃ t, run (r + 2 + w) s = .next t ∧ decode t.stepReg = failed) := by
  refine ⟨fun hmin hmax hno hend => ?_, fun h1 hmax hno hend => ?_, fun hlong hno => ?_⟩
  · obtain ⟨t, u, hrun, ht, hstep, hu⟩ := mark_accepted hmark hs ha hr hw hmin hmax hno hlevel hend
    exact ⟨t, u, hrun, ht, hstep, hu.stepReg⟩
  · by_cases hm : m ≤ r
    · obtain ⟨t, ht⟩ := mark_lost hmark hs ha hr h1 hm (noReset_mono hno (by omega)) hlevel
        (hend _ (by omega) (by omega))
      exact ⟨m, t, hmax, ht.run, decode_eq_iff.mpr (ht.stepReg.trans (hmark.retain_fails _))⟩
    · obtain ⟨t, ht⟩ := mark_tooShort hmark hs ha hr (Nat.lt_of_not_le hm) hno hlevel
        (hend _ (by omega) (by omega))
      exact ⟨r + 2, t, Nat.le_refl _, ht.run, decode_eq_iff.mpr (ht.stepReg.trans (hmark.wait_fails _))⟩
  · obtain ⟨t, ht⟩ := mark_tooLong hmark hs ha hr hw hno fun k hk => hlevel k (by omega)
    exact ⟨t, ht.run, decode_eq_iff.mpr (ht.stepReg.trans (hmark.wait_fails _))⟩

end mark

/-- Settles O30: `mark_widths` for the mark of the preamble and for that of a burst. -/
theorem acceptedPulseWidths : Obligations.AcceptedPulseWidths := by
  intro s m r w next accepted failed hcase ha hlevel
  rcases hcase with ⟨hs, rfl, rfl, rfl, rfl, rfl⟩ | ⟨hs, rfl, rfl, rfl, rfl, rfl⟩
  · exact mark_widths .preamble hs ha rfl rfl hlevel
  · exact mark_widths .burst hs ha rfl rfl hlevel

end Sys2Proof.Machine
end

section
/-! The preamble space (30_encoding.md R84, 42_wait_and_retain.md R150): LB_RET_SPACE, DEC_INIT and FB_WAIT_MARK. -/

namespace Sys2Proof.Machine

/-- DEC_INIT begins an attempt (44_frame_decode.md R176). -/
theorem step_of_decInit {s : State} (hrst : s.pins.rst = false) (hs : s.stepReg = 5) :
    step s = .next (endTick (goto .fbWaitMark
      { startFT s.config.params.tFrame (beginTick s) with raw := 0, idx := 31 })) := by
  apply step_of_exec hrst
  rw [hs]
  exact exec_decInit (beginTick s)

/-- What DEC_INIT writes when it starts the frame timer at the time `start`. -/
def beginAttempt (start : Word) (v : State) : State :=
  goto .fbWaitMark { v with ft := ⟨start, BitVec.ofNat 32 v.config.params.tFrame⟩, raw := 0, idx := 31 }

theorem isExit_beginAttempt (start : Word) : IsExit (beginAttempt start) :=
  ⟨fun _ => rfl, fun _ => rfl, fun _ => rfl⟩

theorem Arrives.decInit {s t : State} {n : Nat} {f : State → State} (h : Arrives n s f t)
    (hi : (f (beginTick s)).stepReg = encode .decInit) (hno : s.noReset (n + 1)) :
    ∃ u, Arrives (n + 1) s (fun v => beginAttempt (s.now + BitVec.ofNat 32 n) (beginTick (f v))) u := by
  have hrst : t.pins.rst = false := rst_after_run hno (Nat.lt_succ_self n) h.run
  have hstep := step_of_decInit hrst (h.stepReg.trans hi)
  have hu : Arrives 1 t (beginAttempt (s.now + BitVec.ofNat 32 n)) (endTick (goto .fbWaitMark
      { startFT t.config.params.tFrame (beginTick t) with raw := 0, idx := 31 })) :=
    { run := (run_succ_of_run rfl).trans hstep
      armed := rfl
      now := rfl
      same := by
        rw [← h.now]
        rfl }
  exact ⟨_, h.andThen hu (isExit_beginAttempt _)⟩

section space

variable {s : State} {r w : Nat} (hr : s.config.params.tLeadSpaceRetain = r) (hs : s.stepReg = 4) (ha : s.armed = false)
include hr hs ha

/-- A space as long as its retention begins an attempt. -/
theorem space_held (hno : s.noReset (r + 2)) (hlevel : ∀ k, k < r → s.levelAt k = .nonMark) :
    ∃ t, Arrives (r + 2) s
      (fun v => beginAttempt (s.now + BitVec.ofNat 32 (r + 1)) (beginTick (goto .decInit v))) t := by
  have hi : decode s.stepReg = .lbRetSpace := decode_eq_iff.mpr hs
  have hwindow : s.row.window = r := by rw [State.row, hi]; exact hr
  obtain ⟨_, t, _, _, ht⟩ := retain_succeeds (s := s) (l := .nonMark) (by rw [State.row, hi]; rfl) ha
    (noReset_mono hno (by omega)) (fun k hk => by rw [hlevel k (by omega)]; exact nofun)
  rw [hi, hwindow] at ht
  exact Arrives.decInit (f := goto .decInit) ⟨ht.run, ht.armed, ht.now, ht.same⟩ rfl hno

/-- A space shorter than its retention fails unreported. -/
theorem space_lost {m : Nat} (h1 : 1 ≤ m) (hm : m ≤ r) (hno : s.noReset m)
    (hlevel : ∀ k, k + 1 < m → s.levelAt k = .nonMark) (hlost : s.levelAt (m - 1) = .mark) :
    ∃ t, Arrives m s (goto .idle) t := by
  have hi : decode s.stepReg = .lbRetSpace := decode_eq_iff.mpr hs
  obtain ⟨q, rfl⟩ : ∃ q, m = q + 1 := ⟨m - 1, by omega⟩
  obtain ⟨_, t, _, _, _, ht⟩ := retain_fails (s := s) (l := .nonMark) (n := q) (by rw [State.row, hi]; rfl) ha
    (by rw [State.row, hi]; exact Nat.lt_of_lt_of_eq (by omega) hr.symm) hno
    (fun k hk => by rw [hlevel k (by omega)]; exact nofun) hlost
  rw [hi] at ht
  exact ⟨t, ht.run, ht.armed, ht.now, ht.same⟩

variable (hw : s.config.params.tFirstMarkWait = w)
include hw

/-- A space of accepted width ends at the first burst of the frame. -/
theorem space_accepted {m : Nat} (hmin : r + 4 ≤ m) (hmax : m ≤ r + 3 + w) (hno : s.noReset m)
    (hlevel : ∀ k, k + 1 < m → s.levelAt k = .nonMark) (hend : s.levelAt (m - 1) = .mark) :
    ∃ t u, run (m - 1) s = .next t ∧ t.stepReg = 6 ∧ step t = .next u ∧ Arrives m s (fun v =>
      goto .brRetMark
        (beginTick (beginAttempt (s.now + BitVec.ofNat 32 (r + 1)) (beginTick (goto .decInit v))))) u := by
  obtain ⟨q, rfl⟩ : ∃ q, m = r + 2 + (q + 1) := ⟨m - (r + 3), by omega⟩
  obtain ⟨t, ht⟩ := space_held hr hs ha (noReset_mono hno (by omega)) fun k hk => hlevel k (by omega)
  exact ht.wait_succeeds (i := .fbWaitMark) (l := .mark) rfl rfl hw (m := q) (by omega) (by omega) hno
    (hlevel _ (by omega)) (fun k hk1 hk2 => by rw [hlevel k (by omega)]; exact nofun) hend

/-- The rejection of the attempt that a space of the wrong width begins. -/
def rejectedAtFirstBurst (start : Word) (v : State) : State :=
  raise .timeout (beginTick (beginAttempt start (beginTick (goto .decInit v))))

omit hw in
/-- A space too short for FB_WAIT_MARK. -/
theorem space_tooShort {m : Nat} (hm : r < m) (hno : s.noReset (r + 3))
    (hlevel : ∀ k, k + 1 < m → s.levelAt k = .nonMark) (hend : s.levelAt (r + 2) = .mark) :
    ∃ t, Arrives (r + 3) s (rejectedAtFirstBurst (s.now + BitVec.ofNat 32 (r + 1))) t := by
  obtain ⟨t, ht⟩ := space_held hr hs ha (noReset_mono hno (by omega)) fun k hk => hlevel k (by omega)
  exact ht.wait_failsAtOnce (i := .fbWaitMark) (l := .mark) rfl rfl hno (by rw [hend]; exact nofun)

/-- A space too long for FB_WAIT_MARK. -/
theorem space_tooLong (hno : s.noReset (r + 3 + w)) (hlevel : ∀ k, k < r + 3 + w → s.levelAt k = .nonMark) :
    ∃ t, Arrives (r + 3 + w) s (rejectedAtFirstBurst (s.now + BitVec.ofNat 32 (r + 1))) t := by
  obtain ⟨t, ht⟩ := space_held hr hs ha (noReset_mono hno (by omega)) fun k hk => hlevel k (by omega)
  obtain ⟨u, hu⟩ := ht.wait_timesOut (i := .fbWaitMark) (l := .mark) rfl rfl hw (noReset_mono hno (by omega))
    (hlevel _ (by omega)) fun k hk1 hk2 => by rw [hlevel k (by omega)]; exact nofun
  rw [show r + 2 + (w + 1) = r + 3 + w by omega] at hu
  exact ⟨u, hu⟩

end space

/-- Settles O46: a clause for each of the lemmas on the preamble space. -/
theorem acceptedPreambleSpaceWidths : Obligations.AcceptedPreambleSpaceWidths := by
  intro s m retain wait hr hw hs ha hlevel
  refine ⟨fun hmin hmax hno hend => ?_, fun h1 hmax hno hend => ?_, fun hmin hmax hno hend => ?_, fun hlong hno => ?_⟩
  · obtain ⟨t, u, hrun, ht, hstep, hu⟩ := space_accepted hr.symm hs ha hw.symm hmin hmax hno hlevel hend
    refine ⟨t, u, hrun, ht, hstep, hu.stepReg, hu.armed, hu.raw, hu.idx, hu.ft⟩
  · obtain ⟨t, ht⟩ := space_lost hr.symm hs ha h1 hmax hno hlevel hend
    exact ⟨t, ht.run, ht.stepReg, ht.rejectValid, ht.result⟩
  · obtain ⟨t, ht⟩ := space_tooShort hr.symm hs ha hmin hno hlevel (hend _ (by omega) (by omega))
    exact ⟨t, ht.run, ht.stepReg, ht.rejectValid, ht.result⟩
  · obtain ⟨t, ht⟩ := space_tooLong hr.symm hs ha hw.symm hno fun k hk => hlevel k (by omega)
    exact ⟨t, ht.run, ht.stepReg, ht.rejectValid, ht.result⟩

end Sys2Proof.Machine
end

section
/-! The bit slots and the closing burst (30_encoding.md R83 to R85, 44_frame_decode.md R187 to R189), over a burst of
accepted width and a space of `n` ticks. -/

namespace Sys2Proof.Machine

/-- A slot of a burst of `b` ticks and a space of `n`, from the tick after the burst's first sample, in a block with
these windows. -/
structure Slot (s : State) (b n burstRetain burstWait spaceRetain : Nat) : Prop where
  retain : s.config.params.tBurstMarkRetain = burstRetain
  wait : s.config.params.tBurstSpaceWait = burstWait
  spaceWindow : s.config.params.tBurstSpaceRetain = spaceRetain
  stepReg : s.stepReg = 7
  armed : s.armed = false
  min : burstRetain + 3 ≤ b
  max : b ≤ burstRetain + 2 + burstWait
  burst : ∀ k, k + 1 < b → s.levelAt k = .mark
  space : ∀ k, b ≤ k + 1 → k + 1 < b + n → s.levelAt k = .nonMark

namespace Slot

variable {s : State} {b n br bw sr : Nat} (h : Slot s b n br bw sr)
include h

/-- The burst leads to BR_RET_SPACE. -/
theorem burst_accepted (h1 : 1 ≤ n) (hno : s.noReset b) : ∃ t, Arrives b s (goto .brRetSpace) t := by
  have hmin := h.min
  obtain ⟨_, t, _, _, _, ht⟩ := mark_accepted .burst h.stepReg h.armed h.retain h.wait h.min h.max hno h.burst
    (h.space _ (by omega) (by omega))
  exact ⟨t, ht⟩

/-- A space shorter than its retention rejects the attempt. -/
theorem space_lost (h1 : 1 ≤ n) (hn : n ≤ sr) (hno : s.noReset (b + n)) (hend : s.levelAt (b + n - 1) = .mark) :
    ∃ t, Arrives (b + n) s (fun v => raise .timeout (beginTick (goto .brRetSpace v))) t := by
  have hsr := h.spaceWindow
  obtain ⟨q, rfl⟩ : ∃ q, n = q + 1 := ⟨n - 1, by omega⟩
  obtain ⟨t, ht⟩ := h.burst_accepted h1 (noReset_mono hno (by omega))
  exact ht.retain_fails (i := .brRetSpace) (l := .nonMark) rfl rfl (m := q) (Nat.lt_of_lt_of_eq (by omega) hsr.symm)
    hno (fun k hk1 hk2 => by rw [h.space k (by omega) (by omega)]; exact nofun) hend

/-- A space as long as its retention leads to BIT_HEAD. -/
theorem space_held (hn : sr + 1 ≤ n) (hno : s.noReset (b + sr + 1)) :
    ∃ t, Arrives (b + sr + 1) s (fun v => goto .bitHead (beginTick (goto .brRetSpace v))) t := by
  obtain ⟨t, ht⟩ := h.burst_accepted (by omega) (noReset_mono hno (by omega))
  exact ht.retain_succeeds (i := .brRetSpace) (l := .nonMark) rfl rfl h.spaceWindow hno
    fun k hk1 hk2 => by rw [h.space k (by omega) (by omega)]; exact nofun

end Slot

/-- The hop of BIT_HEAD, where its rule is known to be `g`. -/
theorem Arrives.bitHead {s t : State} {n : Nat} {f g : State → State} (h : Arrives n s f t) (hg : IsExit g)
    (hi : (f (beginTick s)).stepReg = encode .bitHead) (hno : s.noReset (n + 1))
    (hx : exec .bitHead (beginTick t) = .next (g (beginTick t))) :
    ∃ u, Arrives (n + 1) s (fun v => g (beginTick (f v))) u := by
  have hrst : t.pins.rst = false := rst_after_run hno (Nat.lt_succ_self n) h.run
  have hstep := step_of_exec hrst ((h.decode_stepReg hi).symm ▸ hx)
  have hu : Arrives 1 t g (endTick (g (beginTick t))) :=
    { run := (run_succ_of_run rfl).trans hstep
      armed := hg.armed _
      now := by
        rw [endTick_now, hg.now]
        rfl
      same := rfl }
  exact ⟨_, h.andThen hu hg⟩

/-! ### The closing burst (44_frame_decode.md R188) -/

/-- CHECK accepts a word that passes, and rejects any other (45_integrity_and_frame_loop.md R212). -/
theorem step_of_check {s : State} (hrst : s.pins.rst = false) (hs : s.stepReg = 14) :
    step s = .next (endTick (if frameOk s.raw then accept (beginTick s) else raise .integrity (beginTick s))) := by
  apply step_of_exec hrst
  rw [hs]
  exact exec_check (beginTick s)

theorem Slot.reaches_check {s : State} {b n br bw sr : Nat} (h : Slot s b n br bw sr) (hidx : s.idx = 63)
    (hn : sr + 1 ≤ n) (hno : s.noReset (b + sr + 2)) :
    ∃ t, Arrives (b + sr + 2) s
      (fun v => goto .check (beginTick (goto .bitHead (beginTick (goto .brRetSpace v))))) t := by
  obtain ⟨t, ht⟩ := h.space_held hn (noReset_mono hno (by omega))
  have hall : allBitsAssembled t.idx = true := by
    rw [show t.idx = 63 from ht.idx.trans hidx]
    decide
  refine ht.bitHead (g := goto .check) (isExit_goto _) rfl hno ?_
  rw [exec_bitHead, beginTick_idx, if_pos hall]

/-- Settles O47: a long enough space reaches CHECK over `Slot.reaches_check`, a short one is `Slot.space_lost`. -/
theorem closingBurstLeadsToTheCheck : Obligations.ClosingBurstLeadsToTheCheck := by
  intro s b n burstRetain burstWait spaceRetain hbr hbw hsr hs ha hidx hmin hmax hburst hspace
  have hslot : Slot s b n burstRetain burstWait spaceRetain :=
    ⟨hbr.symm, hbw.symm, hsr.symm, hs, ha, hmin, hmax, hburst, hspace⟩
  refine ⟨fun hn hno => ?_, fun h1 hn hno hend => ?_⟩
  · obtain ⟨t, ht⟩ := hslot.reaches_check hidx hn (noReset_mono hno (by omega))
    have hraw : t.raw = s.raw := ht.raw
    have hstep := step_of_check (rst_after_run hno (Nat.lt_succ_self _) ht.run) ht.stepReg
    rw [hraw] at hstep
    refine ⟨t, _, ht.run, ht.stepReg, hstep, ?_, fun hok => ?_, fun hok => ?_⟩
    · split <;> rfl
    · rw [if_pos hok]
      exact ⟨rfl, rfl, congrArg addressField hraw, congrArg dataField hraw⟩
    · rw [if_neg (by simp [hok])]
      exact ⟨rfl, rfl, ht.address, ht.data⟩
  · obtain ⟨t, ht⟩ := hslot.space_lost h1 hn hno hend
    exact ⟨t, ht.run, ht.stepReg, ht.result, ht.rejectValid, ht.raw, ht.address, ht.data⟩

end Sys2Proof.Machine
end

section
/-! A bit slot (30_encoding.md R83, 44_frame_decode.md R189): how the width of its space classifies it. -/

namespace Sys2Proof.Machine

theorem Arrives.of_eq {n m : Nat} {s t : State} {f : State → State} (h : Arrives n s f t) (e : n = m) :
    Arrives m s f t := e ▸ h

theorem elapsed_add (now : Word) (t : Timer) {k : Nat} (h : (elapsed now t).toNat + k < 2 ^ 32) :
    (elapsed (now + BitVec.ofNat 32 k) t).toNat = (elapsed now t).toNat + k := by
  rw [elapsed, add_sub_right_comm, BitVec.toNat_add, BitVec.toNat_ofNat, ← elapsed,
    Nat.mod_eq_of_lt (a := k) (by omega), Nat.mod_eq_of_lt h]

/-- The frame deadline has not passed after `n` ticks that have kept `FT`. -/
theorem Arrives.not_expired {n : Nat} {s t : State} {f : State → State} (h : Arrives n s f t)
    (hft : (f (beginTick s)).ft = s.ft) (hlate : (elapsed s.now s.ft).toNat + n < s.ft.dur.toNat) :
    expired t.now t.ft = false := by
  have := s.ft.dur.isLt
  rw [not_expired_iff, h.ft, hft, h.now, elapsed_add _ _ (by omega)]
  exact hlate

/-- From the burst to the first tick of BIT_WAIT_MARK. -/
def bitEntered (v : State) : State :=
  goto .bitWaitMark (beginTick (goto .bitHead (beginTick (goto .brRetSpace v))))

/-- From the burst to the first tick of Z_RET_SPACE, with the bit classified 0. -/
def zeroCounted (v : State) : State := classifyZero (beginTick (bitEntered v))

/-- From the burst to the first tick of Z_WAIT_MARK. -/
def zeroHeld (v : State) : State := goto .zWaitMark (beginTick (zeroCounted v))

/-- No register that a rejection must leave alone is touched. -/
theorem zeroCounted_keeps (v : State) :
    (zeroCounted v).raw = v.raw ∧ (zeroCounted v).address = v.address ∧ (zeroCounted v).data = v.data := by
  simp [zeroCounted, classifyZero, bitEntered]

theorem zeroHeld_keeps (v : State) :
    (zeroHeld v).raw = v.raw ∧ (zeroHeld v).address = v.address ∧ (zeroHeld v).data = v.data := by
  simp [zeroHeld, zeroCounted_keeps]

theorem zeroHeld_idx (v : State) : (zeroHeld v).idx = v.idx - 1 := by
  simp [zeroHeld, zeroCounted, classifyZero, bitEntered]

/-- A slot of a bit, in a block with these windows, over which the deadline does not pass. -/
structure BitSlot (s : State) (b n burstRetain burstWait spaceRetain bitWait zeroRetain : Nat) : Prop
    extends Slot s b n burstRetain burstWait spaceRetain where
  bitWindow : s.config.params.tBitMarkWait = bitWait
  zeroWindow : s.config.params.tZeroSpaceRetain = zeroRetain
  bitsLeft : s.idx.toNat ≤ 31
  deadline : (elapsed s.now s.ft).toNat + b + n < s.ft.dur.toNat

namespace BitSlot

variable {s : State} {b n br bw sr bm z : Nat} (h : BitSlot s b n br bw sr bm z)
include h

theorem space_ne_mark {k : Nat} (h1 : b ≤ k + 1) (h2 : k + 1 < b + n) : s.levelAt k ≠ .mark := by
  rw [h.space k h1 h2]
  exact nofun

theorem bit_entered (hn : sr + 1 ≤ n) (hno : s.noReset (b + sr + 2)) : ∃ t, Arrives (b + sr + 2) s bitEntered t := by
  obtain ⟨t, ht⟩ := h.space_held hn (noReset_mono hno (by omega))
  have hleft : allBitsAssembled t.idx = false := allBitsAssembled_eq_false (ht.idx.symm ▸ h.bitsLeft)
  have hdeadline := h.deadline
  have hexp : expired t.now t.ft = false := ht.not_expired rfl (by omega)
  refine ht.bitHead (g := goto .bitWaitMark) (isExit_goto _) rfl hno ?_
  rw [exec_bitHead, beginTick_idx, beginTick_now, beginTick_ft, hleft, hexp]
  rfl

/-- A Mark where BIT_WAIT_MARK asks for NonMark: the bit is taken for a 0, and Z_RET_SPACE rejects the attempt. -/
theorem bit_tooShort (hn : sr + 1 ≤ n) (hno : s.noReset (b + sr + 4)) (hmark : s.levelAt (b + sr + 2) = .mark)
    (hmark' : s.levelAt (b + sr + 3) = .mark) :
    ∃ t, Arrives (b + sr + 4) s (fun v => raise .timeout (beginTick (zeroCounted v))) t := by
  have hzero := (s.config.duration_range (d := s.config.params.tZeroSpaceRetain) (by simp [Params.durations])).1
  obtain ⟨t, ht⟩ := h.bit_entered hn (noReset_mono hno (by omega))
  obtain ⟨u, hu⟩ := ht.wait_failsAtOnce (i := .bitWaitMark) (l := .mark) rfl rfl (noReset_mono hno (by omega))
    (by rw [hmark]; exact nofun)
  exact Arrives.retain_fails (f := zeroCounted) hu (i := .zRetSpace) (l := .nonMark) rfl rfl (m := 0) hzero hno
    (fun k hk1 hk2 => by omega) hmark'

/-- The next burst comes in BIT_WAIT_MARK's window. -/
theorem bit_one (hmin : sr + 4 ≤ n) (hmax : n ≤ sr + 3 + bm) (hno : s.noReset (b + n))
    (hend : s.levelAt (b + n - 1) = .mark) :
    ∃ t, Arrives (b + n) s (fun v => succeedState .bitWaitMark (beginTick (bitEntered v))) t := by
  obtain ⟨q, rfl⟩ : ∃ q, n = sr + 2 + (q + 1) := ⟨n - (sr + 3), by omega⟩
  obtain ⟨t, ht⟩ := h.bit_entered (by omega) (noReset_mono hno (by omega))
  obtain ⟨_, u, _, _, _, hu⟩ := ht.wait_succeeds (i := .bitWaitMark) (l := .mark) rfl rfl h.bitWindow (m := q)
    (by omega) (by omega) (noReset_mono hno (by omega)) (h.space _ (by omega) (by omega))
    (fun k hk1 hk2 => h.space_ne_mark (by omega) (by omega))
    (by refine Eq.trans ?_ hend; congr 1; omega)
  exact ⟨u, hu.of_eq (by omega)⟩

/-- BIT_WAIT_MARK's window passes: the bit is a 0. -/
theorem zero_counted (hn : sr + bm + 4 ≤ n) (hno : s.noReset (b + sr + bm + 3)) :
    ∃ t, Arrives (b + sr + bm + 3) s zeroCounted t := by
  obtain ⟨t, ht⟩ := h.bit_entered (by omega) (noReset_mono hno (by omega))
  obtain ⟨u, hu⟩ := ht.wait_timesOut (i := .bitWaitMark) (l := .mark) rfl rfl h.bitWindow
    (noReset_mono hno (by omega)) (h.space _ (by omega) (by omega))
    (fun k hk1 hk2 => h.space_ne_mark (by omega) (by omega))
  exact ⟨u, Arrives.of_eq (f := zeroCounted) hu (by omega)⟩

/-- The rest of the long space is held for its retention. -/
theorem zero_held (hn : sr + bm + z + 4 ≤ n) (hno : s.noReset (b + sr + bm + z + 4)) :
    ∃ t, Arrives (b + sr + bm + z + 4) s zeroHeld t := by
  obtain ⟨t, ht⟩ := h.zero_counted (by omega) (noReset_mono hno (by omega))
  obtain ⟨u, hu⟩ := ht.retain_succeeds (i := .zRetSpace) (l := .nonMark) rfl rfl h.zeroWindow
    (noReset_mono hno (by omega)) (fun k hk1 hk2 => h.space_ne_mark (by omega) (by omega))
  exact ⟨u, Arrives.of_eq (f := zeroHeld) hu (by omega)⟩

/-- The next burst comes in Z_RET_SPACE's window. -/
theorem zero_lost (hmin : sr + bm + 4 ≤ n) (hmax : n ≤ sr + bm + z + 3) (hno : s.noReset (b + n))
    (hend : s.levelAt (b + n - 1) = .mark) :
    ∃ t, Arrives (b + n) s (fun v => raise .timeout (beginTick (zeroCounted v))) t := by
  obtain ⟨q, rfl⟩ : ∃ q, n = sr + bm + 3 + (q + 1) := ⟨n - (sr + bm + 4), by omega⟩
  obtain ⟨t, ht⟩ := h.zero_counted hmin (noReset_mono hno (by omega))
  obtain ⟨u, hu⟩ := ht.retain_fails (i := .zRetSpace) (l := .nonMark) rfl rfl (m := q)
    (Nat.lt_of_lt_of_eq (by omega) h.zeroWindow.symm) (noReset_mono hno (by omega))
    (fun k hk1 hk2 => h.space_ne_mark (by omega) (by omega))
    (by refine Eq.trans ?_ hend; congr 1; omega)
  exact ⟨u, Arrives.of_eq (f := fun v => raise .timeout (beginTick (zeroCounted v))) hu (by omega)⟩

/-- A Mark where Z_WAIT_MARK asks for NonMark. -/
theorem zero_tooShort (hn : sr + bm + z + 4 ≤ n) (hno : s.noReset (b + sr + bm + z + 5))
    (hmark : s.levelAt (b + sr + bm + z + 4) = .mark) :
    ∃ t, Arrives (b + sr + bm + z + 5) s (fun v => raise .timeout (beginTick (zeroHeld v))) t := by
  obtain ⟨t, ht⟩ := h.zero_held hn (noReset_mono hno (by omega))
  exact ht.wait_failsAtOnce (i := .zWaitMark) (l := .mark) rfl rfl hno (by rw [hmark]; exact nofun)

/-- The next burst comes in Z_WAIT_MARK's window. -/
theorem zero_ended (hmin : sr + bm + z + 6 ≤ n) (hmax : n ≤ sr + 2 * bm + z + 5) (hno : s.noReset (b + n))
    (hend : s.levelAt (b + n - 1) = .mark) :
    ∃ t, Arrives (b + n) s (fun v => goto .brRetMark (beginTick (zeroHeld v))) t := by
  obtain ⟨q, rfl⟩ : ∃ q, n = sr + bm + z + 4 + (q + 1) := ⟨n - (sr + bm + z + 5), by omega⟩
  obtain ⟨t, ht⟩ := h.zero_held (by omega) (noReset_mono hno (by omega))
  obtain ⟨_, u, _, _, _, hu⟩ := ht.wait_succeeds (i := .zWaitMark) (l := .mark) rfl rfl h.bitWindow (m := q)
    (by omega) (by omega) (noReset_mono hno (by omega)) (h.space _ (by omega) (by omega))
    (fun k hk1 hk2 => h.space_ne_mark (by omega) (by omega))
    (by refine Eq.trans ?_ hend; congr 1; omega)
  exact ⟨u, Arrives.of_eq (f := fun v => goto .brRetMark (beginTick (zeroHeld v))) hu (by omega)⟩

/-- The space does not end. -/
theorem zero_tooLong (hn : sr + 2 * bm + z + 6 ≤ n) (hno : s.noReset (b + sr + 2 * bm + z + 5)) :
    ∃ t, Arrives (b + sr + 2 * bm + z + 5) s (fun v => raise .timeout (beginTick (zeroHeld v))) t := by
  obtain ⟨t, ht⟩ := h.zero_held (by omega) (noReset_mono hno (by omega))
  obtain ⟨u, hu⟩ := ht.wait_timesOut (i := .zWaitMark) (l := .mark) rfl rfl h.bitWindow
    (noReset_mono hno (by omega)) (h.space _ (by omega) (by omega))
    (fun k hk1 hk2 => h.space_ne_mark (by omega) (by omega))
  exact ⟨u, Arrives.of_eq (f := fun v => raise .timeout (beginTick (zeroHeld v))) hu (by omega)⟩

end BitSlot

/-- The attempt is rejected with REJ_TIMEOUT, and `raw`, `address` and `data` stay. -/
def RejectedWithTimeout (s t : State) : Prop :=
  t.stepReg = 15 ∧ t.result = .rejTimeout ∧ t.rejectValid = true ∧ t.raw = s.raw ∧ t.address = s.address ∧
    t.data = s.data

/-- A chain that ends in the failure entry and has touched no bit and no byte. -/
theorem Arrives.rejected {n : Nat} {s t : State} {f : State → State}
    (h : Arrives n s (fun v => raise .timeout (beginTick (f v))) t)
    (hkeeps : ∀ v, (f v).raw = v.raw ∧ (f v).address = v.address ∧ (f v).data = v.data) : RejectedWithTimeout s t := by
  obtain ⟨hraw, haddress, hdata⟩ := hkeeps (beginTick s)
  exact ⟨h.stepReg, h.result, h.rejectValid, h.raw.trans hraw, h.address.trans haddress, h.data.trans hdata⟩

/-- Settles O31: a clause for each range of the width, from the lemmas on a slot. -/
theorem bitSlotsAreReadFromTheirWidths : Obligations.BitSlotsAreReadFromTheirWidths := by
  intro s b n burstRetain burstWait spaceRetain bitWait zeroRetain hbr hbw hsr hbm hz hs ha hidx hlate hmin hmax hburst
    hspace
  have hslot : BitSlot s b n burstRetain burstWait spaceRetain bitWait zeroRetain :=
    { retain := hbr.symm, wait := hbw.symm, spaceWindow := hsr.symm, stepReg := hs, armed := ha, min := hmin,
      max := hmax, burst := hburst, space := hspace, bitWindow := hbm.symm, zeroWindow := hz.symm, bitsLeft := hidx,
      deadline := hlate }
  refine ⟨fun h1 hn hno hend => ?_, fun h1 hn hno hend => ?_, fun h1 hn hno hend hnext => ?_,
    fun h1 hn hno hend => ?_, fun h1 hno => ?_⟩
  · by_cases hlost : n ≤ spaceRetain
    · obtain ⟨t, ht⟩ := hslot.space_lost h1 hlost (noReset_mono hno (by omega)) (hend _ (by omega) (by omega))
      exact ⟨b + n, t, by omega, ht.run, ht.rejected fun _ => ⟨rfl, rfl, rfl⟩⟩
    · obtain ⟨t, ht⟩ := hslot.bit_tooShort (by omega) hno (hend _ (by omega) (by omega))
        (hend _ (by omega) (by omega))
      exact ⟨_, t, Nat.le_refl _, ht.run, ht.rejected zeroCounted_keeps⟩
  · obtain ⟨t, ht⟩ := hslot.bit_one h1 hn hno hend
    have hraw : t.raw = s.raw ||| (1#32 <<< s.idx.toNat) := by
      simpa [succeedState_raw, bitEntered, Nat.mod_eq_of_lt (Nat.lt_succ_of_le hidx)] using ht.raw
    have hnext : t.idx = s.idx - 1 := by simpa [succeedState_idx, bitEntered] using ht.idx
    exact ⟨t, ht.run, ht.stepReg, ht.armed, hraw, hnext⟩
  · by_cases hlost : n ≤ spaceRetain + bitWait + zeroRetain + 3
    · obtain ⟨t, ht⟩ := hslot.zero_lost h1 hlost (noReset_mono hno (by omega)) hend
      exact ⟨b + n, t, by omega, ht.run, ht.rejected zeroCounted_keeps⟩
    · have hmark : s.levelAt (b + spaceRetain + bitWait + zeroRetain + 4) = .mark := by
        rcases (show n = spaceRetain + bitWait + zeroRetain + 4 ∨ n = spaceRetain + bitWait + zeroRetain + 5 by omega)
          with rfl | rfl
        · exact (congrArg s.levelAt (by omega)).trans hnext
        · exact (congrArg s.levelAt (by omega)).trans hend
      obtain ⟨t, ht⟩ := hslot.zero_tooShort (by omega) (noReset_mono hno (by omega)) hmark
      exact ⟨_, t, by omega, ht.run, ht.rejected zeroHeld_keeps⟩
  · obtain ⟨t, ht⟩ := hslot.zero_ended h1 hn hno hend
    have hraw : t.raw = s.raw := by simpa [zeroHeld_keeps] using ht.raw
    have hnext : t.idx = s.idx - 1 := by simpa [zeroHeld_idx] using ht.idx
    exact ⟨t, ht.run, ht.stepReg, ht.armed, hraw, hnext⟩
  · obtain ⟨t, ht⟩ := hslot.zero_tooLong h1 hno
    exact ⟨t, ht.run, ht.rejected zeroHeld_keeps⟩

end Sys2Proof.Machine
end
